-- ==== Sys2Proof/Word.lean ====
section
/-! DEFINITION. The words of the DCF77 decoder: timestamps and durations, the 40-bit event word, the 59-bit frame word. -/

namespace Sys2Proof

/-- An unsigned number of milliseconds from the front-end's clock (R13). It occupies the low `TS_W` bits of the 32 payload
bits an event word has for it (R96). -/
abbrev Timestamp := BitVec 32

/-- The difference of two timestamps (R13, R94). -/
abbrev Duration := BitVec 32

/-- One event word (R96): bit 0 is the least significant bit. -/
abbrev EventWord := BitVec 40

/-- One frame as a number (R84): bit `i` is the telegram bit of index `i`, the first received bit being bit 0 (log 10). -/
abbrev FrameWord := BitVec 59

/-- A set of change kinds as the 6-bit mask of R31. -/
abbrev KindMask := BitVec 6

end Sys2Proof
end

