-- ==== Sys2Proof/Config.lean ====
section
/-! DEFINITION. The configuration of one instantiation of the block: the parameters of R5, R8 and R9, the registers of R36. -/

namespace Sys2Proof

/-- A telegram index at which a status flag may stand: those from 1 to 19, which the document leaves to the platform. The markers 0 and 20 and
the fields from 21 to 58 are fixed (R64). -/
abbrev FlagIndex := { i : Nat // 1 ≤ i ∧ i ≤ 19 }

/-- What is fixed at instantiation and read-only to every operation (R36). It stands in the machine's state, never written, so that a
statement about every state is a statement about every configuration (log 1). -/
structure Config where
  /-- `FALSE_LO`, `FALSE_HI`: the pulse lengths that spell ZERO (R5). -/
  falseLo : Duration
  falseHi : Duration
  /-- `TRUE_LO`, `TRUE_HI`: the pulse lengths that spell ONE (R5). -/
  trueLo : Duration
  trueHi : Duration
  /-- `PAUSE_LO`, `PAUSE_HI`: the same-kind edge distances that spell the minute gap (R5, R82). -/
  pauseLo : Duration
  pauseHi : Duration
  /-- `TS_W`, the width of a timestamp (R8). -/
  tsW : Nat
  /-- `FIELD_W`, the width of a decoded field in the register forms of R171 and R208 (R8). -/
  fieldW : Nat
  /-- The telegram indices of the five status flags (R9, R64). -/
  callBit : FlagIndex
  dstAnnBit : FlagIndex
  cestBit : FlagIndex
  cetBit : FlagIndex
  leapAnnBit : FlagIndex
  deriving DecidableEq, Repr

/-- The defaults of R5, R8 and R9. The numeric literals are UNVERIFIED against the library's code (91_not_in_source.md N16, log 22) and the
five flag positions are PRESUMED, general knowledge that the spec marks as not in its source (93_implementation_defined.md G1, log 16). -/
def Config.standard : Config where
  falseLo := 50
  falseHi := 130
  trueLo := 150
  trueHi := 230
  pauseLo := 1700
  pauseHi := 2500
  tsW := 32
  fieldW := 11
  callBit := ⟨15, by decide⟩
  dstAnnBit := ⟨16, by decide⟩
  cestBit := ⟨17, by decide⟩
  cetBit := ⟨18, by decide⟩
  leapAnnBit := ⟨19, by decide⟩

/-- The five flag positions in the order of R9. -/
def Config.flagIndices (c : Config) : List FlagIndex := [c.callBit, c.dstAnnBit, c.cestBit, c.cetBit, c.leapAnnBit]

/-- What the spec asks of a configuration: `TS_W` is at most 32 (R96, U14), the six range numbers are `TS_W`-bit numbers (R36), and the five flags
stand at five different indices (R64, R85; DEDUCED, log 26). Any such ranges are legal, empty or overlapping ones too (R36, R111). -/
def Config.ok (c : Config) : Bool :=
  decide (c.tsW ≤ 32) && ([c.falseLo, c.falseHi, c.trueLo, c.trueHi, c.pauseLo, c.pauseHi].all fun v => decide (v.toNat < 2 ^ c.tsW)) &&
    decide c.flagIndices.Nodup

end Sys2Proof
end

