-- ==== Sys2Proof/Syntax.lean ====
section
/-! DEFINITION. The syntax: the enumerations of R13 and one constructor of `Instr` for each row of spec/opcode_table.json. -/

namespace Sys2Proof

/-- A received bit (R13): ZERO or ONE. -/
inductive Bit where
  | zero
  | one
  deriving DecidableEq, Repr

/-- What the classifier answers (R13): INVALID is an outcome and never a stored bit. -/
inductive PulseClass where
  | zero
  | one
  | invalid
  deriving DecidableEq, Repr

/-- Whether the minute gap has been located (R21). -/
inductive SyncState where
  | searching
  | synchronized
  deriving DecidableEq, Repr

/-- The kinds a consumer can subscribe to (R31), in the order of the mask's bits. -/
inductive Kind where
  | minute
  | hour
  | day
  | month
  | year
  | dstAnnounced
  deriving DecidableEq, Repr

/-- The operations (R10), one constructor per row of spec/opcode_table.json. -/
inductive Instr where
  /-- `EDGE.HI ts` (R120): the input went high at `ts`. -/
  | edgeHi (ts : Timestamp)
  /-- `EDGE.LO ts` (R121): the input went low at `ts`. -/
  | edgeLo (ts : Timestamp)
  /-- `TIMEOUT` (R150): the watchdog's one-shot timer expired. -/
  | timeout
  /-- `START` (R201). -/
  | start
  /-- `STOP` (R202). -/
  | stop
  /-- `SUBSCRIBE kinds, cb` (R203). -/
  | subscribe (kinds : KindMask) (cb : Bool)
  /-- `GET_LAST_SIGNAL` (R205). -/
  | getLastSignal
  /-- `GET_DATETIME ws` (R206). -/
  | getDatetime (ws : Bool)
  /-- `GET_STATUS` (R207). -/
  | getStatus
  /-- `TELEGRAM`: the 59-bit frame handed to the decoder (R86, R160, log 10). -/
  | telegram (frame : FrameWord)
  /-- `CLASSIFY d` (R110), internal: no event word (R99, log 11). -/
  | classify (d : Duration)
  /-- `DECODE T` (R160), internal, for a sequence of any length (log 11). -/
  | decode (t : List Bit)
  /-- `DISPATCH` (R190), internal (log 11). -/
  | dispatch
  deriving DecidableEq, Repr

/-- What an operation is spelled by: an event word (R96) or a frame (R84). -/
inductive CodeWord where
  | event (w : EventWord)
  | frame (w : FrameWord)
  deriving DecidableEq, Repr

/-- Why a word spells no operation (R99), by name. -/
inductive Reserved where
  /-- `op` is 0 or 9 to 15. -/
  | unassignedOp
  /-- the small argument `a` holds a value its operation does not define. -/
  | argument
  /-- a payload bit that is not a field is 1. -/
  | payload
  /-- an edge's timestamp has a bit at or above `TS_W` (R96). -/
  | wideTimestamp
  /-- a frame word whose index 0 is not the ZERO of the TELEGRAM pattern (R86). -/
  | marker0
  /-- a frame word whose index 20 is not the ONE of the TELEGRAM pattern (R86). -/
  | marker20
  deriving DecidableEq, Repr

/-- What decoding a word answers. -/
inductive Decoded where
  | instr (i : Instr)
  | reserved (why : Reserved)
  deriving DecidableEq, Repr

end Sys2Proof
end

