-- ==== Sys2Proof/WellFormed.lean ====
section
/-! DEFINITION. Which instructions are well formed: the conditions an operand meets in every word that spells the instruction. -/

namespace Sys2Proof

/-- A timestamp or duration is a `TS_W`-bit number (R8, R13). -/
def fitsTimestamp (c : Config) (v : BitVec 32) : Bool :=
  decide (v.toNat < 2 ^ c.tsW)

/-- Well-formedness under a configuration. Edges carry `TS_W`-bit timestamps (R96), `CLASSIFY` a `TS_W`-bit duration (R110), a
TELEGRAM has the fixed markers of its pattern (R86). `DECODE` takes a sequence of any length (R160) and the rest take every operand. -/
def Instr.wf (c : Config) : Instr → Bool
  | .edgeHi ts => fitsTimestamp c ts
  | .edgeLo ts => fitsTimestamp c ts
  | .timeout => true
  | .start => true
  | .stop => true
  | .subscribe _ _ => true
  | .getLastSignal => true
  | .getDatetime _ => true
  | .getStatus => true
  | .telegram f => !f.getLsbD 0 && f.getLsbD 20
  | .classify d => fitsTimestamp c d
  | .decode _ => true
  | .dispatch => true

end Sys2Proof
end

