-- ==== Sys2Proof/Decode.lean ====
section
/-! DEFINITION. The decoder of event words and frame words, and the encoder beside it (R96 to R99, R86). -/

namespace Sys2Proof

/-- `W[39:36]`, the operation code (R96). -/
def opField (w : EventWord) : BitVec 4 := w.extractLsb' 36 4

/-- `W[35:32]`, the small argument (R96). -/
def argField (w : EventWord) : BitVec 4 := w.extractLsb' 32 4

/-- `W[31:0]`, the payload (R96). -/
def payload (w : EventWord) : BitVec 32 := w.extractLsb' 0 32

/-- A word whose `a` and payload must both be 0 (R97). -/
def decodeBare (i : Instr) (a : BitVec 4) (p : BitVec 32) : Decoded :=
  if a ≠ 0 then .reserved .argument
  else if p ≠ 0 then .reserved .payload
  else .instr i

/-- The two edge words (R97): `a[0]` is the level after the edge (R98), `a[3:1]` is 0, the payload is a `TS_W`-bit timestamp. -/
def decodeEdge (c : Config) (a : BitVec 4) (p : BitVec 32) : Decoded :=
  if a ≠ 0 ∧ a ≠ 1 then .reserved .argument
  else if fitsTimestamp c p = false then .reserved .wideTimestamp
  else if a = 1 then .instr (.edgeHi p)
  else .instr (.edgeLo p)

/-- `SUBSCRIBE` (R97): `p[5:0]` is the mask, `p[6]` says whether a callback is given, the rest is 0. -/
def decodeSubscribe (a : BitVec 4) (p : BitVec 32) : Decoded :=
  if a ≠ 0 then .reserved .argument
  else if p.extractLsb' 7 25 ≠ 0 then .reserved .payload
  else .instr (.subscribe (p.extractLsb' 0 6) (p.getLsbD 6))

/-- `GET_DATETIME` (R97): `p[0]` is `withSeconds`, the rest is 0. -/
def decodeGetDatetime (a : BitVec 4) (p : BitVec 32) : Decoded :=
  if a ≠ 0 then .reserved .argument
  else if p.extractLsb' 1 31 ≠ 0 then .reserved .payload
  else .instr (.getDatetime (p.getLsbD 0))

/-- The operation an event word spells, or why it is reserved (R97, R99). Total. -/
def decodeEvent (c : Config) (w : EventWord) : Decoded :=
  match (opField w).toNat with
  | 1 => decodeEdge c (argField w) (payload w)
  | 2 => decodeBare .timeout (argField w) (payload w)
  | 3 => decodeBare .start (argField w) (payload w)
  | 4 => decodeBare .stop (argField w) (payload w)
  | 5 => decodeSubscribe (argField w) (payload w)
  | 6 => decodeBare .getLastSignal (argField w) (payload w)
  | 7 => decodeGetDatetime (argField w) (payload w)
  | 8 => decodeBare .getStatus (argField w) (payload w)
  | _ => .reserved .unassignedOp

/-- The TELEGRAM a frame word spells (R86): the word matches the pattern's two fixed bits. -/
def decodeFrame (w : FrameWord) : Decoded :=
  if w.getLsbD 0 then .reserved .marker0
  else if w.getLsbD 20 = false then .reserved .marker20
  else .instr (.telegram w)

/-- The decoder, total on both kinds of word. -/
def decode (c : Config) : CodeWord → Decoded
  | .event w => decodeEvent c w
  | .frame w => decodeFrame w

/-- An event word from its three fields (R96). -/
def eventWord (op a : BitVec 4) (p : BitVec 32) : EventWord := op ++ a ++ p

/-- The word that spells an instruction (R97, R86). The three internal operations have none (R99). -/
def encode : Instr → Option CodeWord
  | .edgeHi ts => some (.event (eventWord 1 1 ts))
  | .edgeLo ts => some (.event (eventWord 1 0 ts))
  | .timeout => some (.event (eventWord 2 0 0))
  | .start => some (.event (eventWord 3 0 0))
  | .stop => some (.event (eventWord 4 0 0))
  | .subscribe kinds cb => some (.event (eventWord 5 0 ((0 : BitVec 25) ++ BitVec.ofBool cb ++ kinds)))
  | .getLastSignal => some (.event (eventWord 6 0 0))
  | .getDatetime ws => some (.event (eventWord 7 0 ((0 : BitVec 31) ++ BitVec.ofBool ws)))
  | .getStatus => some (.event (eventWord 8 0 0))
  | .telegram f => some (.frame f)
  | .classify _ => none
  | .decode _ => none
  | .dispatch => none

/-- The instruction of a decoding, if there is one. -/
def Decoded.toOption : Decoded → Option Instr
  | .instr i => some i
  | .reserved _ => none

/-- What this decoder reads from an instruction whose table bits are `w` (host's fixed name). The event rows have 40 bits and the TELEGRAM
row 59, in whole bytes 64: a row of at most 40 bits is an event word, a wider one a frame word. Bits beyond the word must be 0. -/
def decodeTableWord (nbits w : Nat) : Option Instr :=
  if nbits ≤ 40 then
    if w < 2 ^ 40 then (decode .standard (.event (BitVec.ofNat 40 w))).toOption else none
  else
    if w < 2 ^ 59 then (decode .standard (.frame (BitVec.ofNat 59 w))).toOption else none

end Sys2Proof
end

