-- ==== Sys2Proof/Machine/State.lean ====
section
/-! DEFINITION. The machine's state: the eighteen elements of R20, the configuration registers of R36, the output ports of R40 and the
inputs still to be delivered; the reasons a step can stop; the state after reset (R41, R250). -/

namespace Sys2Proof.Machine

/-- The 8-field date-time record (R13, R28). Fields are integers, as R8 allows (log 17). -/
@[ext]
structure DateTime where
  year : Int
  month : Int
  day : Int
  weekday : Int
  hour : Int
  minute : Int
  second : Int
  subsecond : Int
  deriving DecidableEq, Repr

/-- The six fields a decode extracts (R169). -/
structure FieldValues where
  minute : Int
  hour : Int
  day : Int
  weekday : Int
  month : Int
  year : Int
  deriving DecidableEq, Repr

/-- Why a decode aborts before any field extraction (R161, R162, R171). -/
inductive AbortCause where
  | len
  | mark0
  | mark20
  deriving DecidableEq, Repr

/-- The decoder's result, the record on the `dec` port (R171): an abort, or six values and the three parity verdicts. -/
inductive DecodeResult where
  | abort (cause : AbortCause)
  | fields (f : FieldValues) (ok1 ok2 ok3 : Bool)
  deriving DecidableEq, Repr

/-- The error causes of R226. Nothing in the block records one: they name what an operation finds. -/
inductive ErrorCause where
  | pulse
  | len
  | mark0
  | mark20
  | parMin
  | parHour
  | parDate
  | timeout
  deriving DecidableEq, Repr

/-- The record `GET_STATUS` returns (R207). -/
structure StatusRecord where
  synchronized : Bool
  valid : Bool
  lastPulseDurationMs : Duration
  tickCount : Nat
  flagsPresent : Bool
  callBit : Bit
  dstAnnounced : Bit
  isCEST : Bit
  isCET : Bit
  leapSecondAnnounced : Bit
  deriving DecidableEq, Repr

/-- The response records of the three `GET_` operations (R205, R206, R207). -/
inductive Response where
  | lastSignal (present : Bool) (bits : List Bit)
  | datetime (dt : DateTime)
  | status (r : StatusRecord)
  deriving DecidableEq, Repr

/-- The output ports (R40). All but `dec` show what the operation just executed put out (log 4). -/
@[ext]
structure Ports where
  /-- `rsp`: the response record, none for an operation that returns nothing. -/
  rsp : Option Response
  /-- `irq`: one pulse of the callback strobe (R194). -/
  irq : Bool
  /-- `wd_arm`: one arm request, with the delay it carries (R151, R36). -/
  wdArm : Option Nat
  /-- `wd_cancel`: one cancel request (R152). -/
  wdCancel : Bool
  /-- The class a `CLASSIFY` of this operation returned (R110). The model's own, no port of R40 (log 4). -/
  cls : Option PulseClass
  /-- `dec`: the result of the most recent `DECODE` (R40, R171); none before the first (log 5). -/
  dec : Option DecodeResult
  deriving DecidableEq, Repr

/-- What the environment delivers (R40): the reset input, or one event word on `ev_word`. -/
inductive Input where
  | rst
  | word (w : EventWord)
  deriving DecidableEq, Repr

/-- The whole machine. The first eighteen fields are the block's complete state (R20). -/
@[ext]
structure State where
  /-- R21. -/
  sync : SyncState
  /-- R22. -/
  tick : Nat
  /-- R23. -/
  buf : List Bit
  /-- R24. -/
  lt : List Bit
  /-- R24. -/
  ltValid : Bool
  /-- R25. -/
  tHi : Timestamp
  /-- R25. -/
  tHiValid : Bool
  /-- R26. -/
  tLo : Timestamp
  /-- R26. -/
  tLoValid : Bool
  /-- R27. -/
  lastDur : Duration
  /-- R28. -/
  cur : DateTime
  /-- R29. -/
  prev : DateTime
  /-- R30. -/
  valid : Bool
  /-- R31. -/
  subKinds : KindMask
  /-- R32. -/
  cbEn : Bool
  /-- R33. -/
  dstLatch : Bit
  /-- R34. -/
  running : Bool
  /-- R35. -/
  wdArmed : Bool
  /-- The configuration registers (R36), never written (log 1). -/
  cfg : Config
  /-- The output ports (R40, log 4). -/
  ports : Ports
  /-- The inputs the environment will deliver, in this order (R68, log 6, log 13). The model's own. -/
  pending : List Input
  deriving DecidableEq, Repr

/-- The reasons a step faults: none. "No operation raises" (R220), no cause traps (R229), and nothing in the block is a fault or
stuck (93_implementation_defined.md, Part 1). Safe: there is nothing to raise (log 20). -/
inductive Fault where
  deriving DecidableEq, Repr

/-- The reasons a step is refused. -/
inductive Refusal where
  /-- An instruction with no meaning yet: raised by an arm of `exec` only; no arm raises it. Safe: nothing is proved of it. -/
  | notModelled (mnemonic : String)
  /-- A reserved event word (R99, U5): raised by `step` when the next word spells no operation. The machine's state is untouched. Safe: the
  model stops where a block that drops the word would go on (log 8). -/
  | reservedWord (why : Reserved)
  deriving DecidableEq, Repr

/-- A date-time with every field 0 (R41). -/
def DateTime.zeros : DateTime where
  year := 0
  month := 0
  day := 0
  weekday := 0
  hour := 0
  minute := 0
  second := 0
  subsecond := 0

/-- No output, as at reset (R250). -/
def Ports.quiet : Ports where
  rsp := none
  irq := false
  wdArm := none
  wdCancel := false
  cls := none
  dec := none

/-- The state after reset of a block with configuration `c` (R41, R250). `lt`, `tHi` and `tLo` are unspecified there: zeros are a DESIGN
CHOICE (log 2). -/
def State.resetWith (c : Config) : State where
  sync := .searching
  tick := 0
  buf := []
  lt := List.replicate 59 .zero
  ltValid := false
  tHi := 0
  tHiValid := false
  tLo := 0
  tLoValid := false
  lastDur := 0
  cur := .zeros
  prev := .zeros
  valid := false
  subKinds := 0
  cbEn := false
  dstLatch := .zero
  running := false
  wdArmed := false
  cfg := c
  ports := .quiet
  pending := []

/-- The machine right after reset (R41, R250), configured with the defaults of R5, R8 and R9 (log 1), nothing delivered yet. -/
def State.reset : State := State.resetWith .standard

end Sys2Proof.Machine
end

