-- ==== Sys2Proof/Machine/Operands.lean ====
section
/-! DEFINITION. How operations form their operands: modular time differences, inclusive ranges, bits and slices of a telegram, weighted
sums, the register codes of enumerated values. -/

namespace Sys2Proof.Machine

/-- `tsdiff(a, b) = (a - b) mod 2^TS_W` (R12, R94): unsigned, so a timestamp that went backwards gives a large number. -/
def tsdiff (tsW : Nat) (a b : Timestamp) : Duration :=
  BitVec.ofNat 32 ((a - b).toNat % 2 ^ tsW)

/-- `inrange(v, LO, HI)` (R12, R5): both ends included, compared as unsigned integers; a range with `LO > HI` holds nothing. -/
def inrange (v lo hi : Duration) : Bool :=
  decide (lo.toNat ≤ v.toNat) && decide (v.toNat ≤ hi.toNat)

/-- The pause test of one edge (R82, R122 b, c): there is a previous edge of the same kind and the elapsed time is in `pauseRange`. -/
def pauseElapsed (c : Config) (ts last : Timestamp) (lastValid : Bool) : Bool :=
  lastValid && inrange (tsdiff c.tsW ts last) c.pauseLo c.pauseHi

/-- `WD_DELAY = PAUSE_HI + 1000` milliseconds (R6, R151), as an unbounded number (log 24). -/
def wdDelay (c : Config) : Nat := c.pauseHi.toNat + 1000

/-- A bit as a number (R11, R100). -/
def bitValue : Bit → Nat
  | .zero => 0
  | .one => 1

/-- A bit of a word as a telegram bit (R100). -/
def bitOfBool : Bool → Bit
  | false => .zero
  | true => .one

/-- `T[i]` (R11). Beyond the end of a sequence, which no reachable read does, ZERO (log 12). -/
def bitAt (t : List Bit) (i : Nat) : Bit := t.getD i .zero

/-- `T[a..b]`, both ends included, in receive order (R11). -/
def slice (t : List Bit) (a b : Nat) : List Bit := (t.drop a).take (b + 1 - a)

/-- The positional weights (R7, R88). -/
def weights : List Nat := [1, 2, 4, 8, 10, 20, 40, 80]

/-- `bcd(s)`: the weighted sum of a field's bits, lowest index first (R88). -/
def bcd (s : List Bit) : Nat := (List.zipWith (fun w b => w * bitValue b) weights s).sum

/-- The telegram a frame word spells: bit `i` is index `i` (R84, R86, log 10). -/
def frameBits (f : FrameWord) : List Bit := (List.range 59).map fun i => bitOfBool (f.getLsbD i)

/-- The outcome of a classification as a storable bit; INVALID is not one (R13, R81). -/
def classBit : PulseClass → Option Bit
  | .zero => some .zero
  | .one => some .one
  | .invalid => none

/-- SEARCHING = 0, SYNCHRONIZED = 1 (R21, R100). -/
def syncCode : SyncState → Nat
  | .searching => 0
  | .synchronized => 1

/-- The mask bit of a kind (R31, R98, R100). -/
def kindIndex : Kind → Nat
  | .minute => 0
  | .hour => 1
  | .day => 2
  | .month => 3
  | .year => 4
  | .dstAnnounced => 5

/-- The mask holding one kind (R31). -/
def kindMask (k : Kind) : KindMask := BitVec.ofNat 6 (2 ^ kindIndex k)

/-- The six kinds in the order of the mask (R31). -/
def allKinds : List Kind := [.minute, .hour, .day, .month, .year, .dstAnnounced]

end Sys2Proof.Machine
end

