-- ==== Sys2Proof/Machine/Flags.lean ====
section
/-! DEFINITION. The verdicts and conditions the spec computes: parity of a group (R92), the met conditions of a dispatch (R190, R191,
R192), the error causes a decode finds (R226). -/

namespace Sys2Proof.Machine

/-- `popcount(s)` (R12). -/
def popcount (s : List Bit) : Nat := (s.map bitValue).sum

/-- The parity law of all three groups (R92): data bits and parity bit together hold an even number of ones. -/
def parityOk (data : List Bit) (p : Bit) : Bool := (popcount data + bitValue p) % 2 == 0

/-- Group P1, the minute (R91). -/
def parityMinute (t : List Bit) : Bool := parityOk (slice t 21 27) (bitAt t 28)

/-- Group P2, the hour (R91). -/
def parityHour (t : List Bit) : Bool := parityOk (slice t 29 34) (bitAt t 35)

/-- Group P3, day, weekday, month and year (R91, R174). -/
def parityDate (t : List Bit) : Bool := parityOk (slice t 36 57) (bitAt t 58)

/-- The condition of DST_ANNOUNCED (R192): the bit is observed ONE and the latch holds ZERO. -/
def dstRise (a latch : Bit) : Bool := a == .one && latch == .zero

/-- Whether the condition of a kind is met (R191, R192): the field differs, or the announcement bit rose. -/
def kindMet (prev cur : DateTime) (a latch : Bit) : Kind → Bool
  | .minute => prev.minute != cur.minute
  | .hour => prev.hour != cur.hour
  | .day => prev.day != cur.day
  | .month => prev.month != cur.month
  | .year => prev.year != cur.year
  | .dstAnnounced => dstRise a latch

/-- The 6-bit mask `m` of met conditions (R190, steps 1 and 2). -/
def metMask (prev cur : DateTime) (a latch : Bit) : KindMask :=
  allKinds.foldl (fun m k => if kindMet prev cur a latch k then m ||| kindMask k else m) 0

/-- Whether a dispatch pulses `irq` (R190 step 3, R193): a callback is registered and a subscribed kind is met. -/
def irqDue (cbEn : Bool) (subKinds m : KindMask) : Bool := cbEn && (m &&& subKinds) != 0

/-- The causes a decode's result shows (R226): one framing cause, or one cause for each failing parity group. -/
def decodeCauses : DecodeResult → List ErrorCause
  | .abort .len => [.len]
  | .abort .mark0 => [.mark0]
  | .abort .mark20 => [.mark20]
  | .fields _ ok1 ok2 ok3 =>
    (if ok1 then [] else [.parMin]) ++ (if ok2 then [] else [.parHour]) ++ (if ok3 then [] else [.parDate])

end Sys2Proof.Machine
end

