-- ==== Sys2Proof/Machine/Ops.lean ====
section
/-! DEFINITION. The named writes of the machine: ports, frame position, timestamps, telegram stores, decoded time, watchdog requests. The
block takes no exceptions (R220, R229), so there is no exception entry here: the recovery of an error is `resync` or `invalidate`. -/

namespace Sys2Proof.Machine

/-- The ports as an operation begins (log 4): no response, no pulse, no class; `dec` keeps the most recent result (log 5). -/
def Ports.idle (p : Ports) : Ports := { p with rsp := none, irq := false, wdArm := none, wdCancel := false, cls := none }

/-- An operation begins: the outputs of the one before are over. -/
def State.beginOp (s : State) : State := { s with ports := s.ports.idle }

/-- A `GET_` operation puts its record on `rsp` (R204). -/
def State.respond (s : State) (r : Response) : State := { s with ports := { s.ports with rsp := some r } }

/-- A `CLASSIFY` returns `k` (R110). -/
def State.reportClass (s : State) (k : PulseClass) : State := { s with ports := { s.ports with cls := some k } }

/-- A `DECODE` puts its result on `dec` (R171). -/
def State.reportDec (s : State) (r : DecodeResult) : State := { s with ports := { s.ports with dec := some r } }

/-- The `irq` strobe of this operation (R194). -/
def State.strobeIrq (s : State) (b : Bool) : State := { s with ports := { s.ports with irq := b } }

/-- The transition to SYNCHRONIZED (R122): the frame position is `S(0)`. -/
def State.synchronize (s : State) : State := { s with sync := .synchronized, tick := 0, buf := [] }

/-- Step 1 of an edge (R122 d): a pause seen while SEARCHING synchronizes, one seen while SYNCHRONIZED changes nothing. -/
def State.detectPause (s : State) (ts last : Timestamp) (lastValid : Bool) : State :=
  if s.sync == .searching && pauseElapsed s.cfg ts last lastValid then s.synchronize else s

/-- Step 2 of `EDGE.HI` (R123). -/
def State.recordHi (s : State) (ts : Timestamp) : State := { s with tHi := ts, tHiValid := true }

/-- Step 2 of `EDGE.LO` (R124). -/
def State.recordLo (s : State) (ts : Timestamp) : State := { s with tLo := ts, tLoValid := true }

/-- The duration of a measured pulse is kept, whatever its class (R27, R125). -/
def State.recordDuration (s : State) (d : Duration) : State := { s with lastDur := d }

/-- The resync (R126): synchronization is abandoned and the frame in progress discarded. -/
def State.resync (s : State) : State := { s with sync := .searching, tick := 0, buf := [] }

/-- A bit is appended and counted (R127). -/
def State.append (s : State) (b : Bit) : State := { s with buf := s.buf ++ [b], tick := s.tick + 1 }

/-- The completion (R128): the whole buffer moves to the last telegram and the next frame begins. -/
def State.complete (s : State) : State := { s with lt := s.buf, ltValid := true, buf := [], tick := 0 }

/-- The date-time is no longer to be trusted (R163, R173, R150, R202). -/
def State.invalidate (s : State) : State := { s with valid := false }

/-- The commit (R172): `prev` takes the old `cur`, all eight fields of `cur` change together, the time is valid. -/
def State.commit (s : State) (d : DateTime) : State := { s with prev := s.cur, cur := d, valid := true }

/-- The announcement latch takes the observed bit (R192). -/
def State.latchDst (s : State) (a : Bit) : State := { s with dstLatch := a }

/-- `arm_watchdog()` (R12, R151): the bookkeeping bit and one request carrying `WD_DELAY`. -/
def State.armWatchdog (s : State) : State :=
  { s with wdArmed := true, ports := { s.ports with wdArm := some (wdDelay s.cfg) } }

/-- `cancel_watchdog()` (R12, R152). -/
def State.cancelWatchdog (s : State) : State :=
  { s with wdArmed := false, ports := { s.ports with wdCancel := true } }

/-- The one-shot timer that fired is spent (R150). -/
def State.disarm (s : State) : State := { s with wdArmed := false }

/-- Edges are processed, or ignored, from the next operation on (R34, R201, R202). -/
def State.setRunning (s : State) (b : Bool) : State := { s with running := b }

/-- The subscription is replaced whole (R203, R71). -/
def State.setSubscription (s : State) (kinds : KindMask) (cb : Bool) : State := { s with subKinds := kinds, cbEn := cb }

/-- Reset (R250): every element at its reset value, the configuration untouched, no output pulse. What the environment will deliver is
not the block's and stays (R42, log 9). -/
def State.rst (s : State) : State := { State.resetWith s.cfg with pending := s.pending }

/-- The next input and the machine without it (log 6). -/
def State.fetch (s : State) : Option (Input × State) :=
  match s.pending with
  | [] => none
  | i :: rest => some (i, { s with pending := rest })

/-- The flag bits of the last telegram that `GET_STATUS` shows (R207): raw when valid, ZERO when not. -/
def State.flagBit (s : State) (i : FlagIndex) : Bit := if s.valid then bitAt s.lt i else .zero

end Sys2Proof.Machine
end

