-- ==== Sys2Proof/Machine/Classifier.lean ====
section
/-! DEFINITION. Operation family 1, the Pulse Classifier: `CLASSIFY` (R110). -/

namespace Sys2Proof.Machine

/-- `CLASSIFY(d)` (R110): a pure function of the configuration and the duration. ZERO is tested first (R111). -/
def classifyPulse (c : Config) (d : Duration) : PulseClass :=
  if inrange d c.falseLo c.falseHi then .zero
  else if inrange d c.trueLo c.trueHi then .one
  else .invalid

/-- `CLASSIFY d` as an operation: it writes no state (R110) and returns the class (log 4, log 11). -/
def execClassify (d : Duration) (s : State) : Host.Outcome State Fault Refusal :=
  .next (s.beginOp.reportClass (classifyPulse s.cfg d))

end Sys2Proof.Machine
end

