-- ==== Sys2Proof/Machine/Dispatcher.lean ====
section
/-! DEFINITION. Operation family 5, the Change/Event Dispatcher: `DISPATCH` (R190 to R197). -/

namespace Sys2Proof.Machine

/-- The summer-time announcement bit a dispatch observes (R192). -/
def State.announcement (s : State) : Bit := bitAt s.lt s.cfg.dstAnnBit

/-- The mask of conditions a dispatch in this state finds met (R190). -/
def State.met (s : State) : KindMask := metMask s.prev s.cur s.announcement s.dstLatch

/-- `DISPATCH()` (R190): the latch always takes the observed bit, and at most one pulse is given (R194). -/
def State.dispatchChanges (s : State) : State :=
  (s.latchDst s.announcement).strobeIrq (irqDue s.cbEn s.subKinds s.met)

/-- `DISPATCH` as an operation (log 11). -/
def execDispatch (s : State) : Host.Outcome State Fault Refusal := .next s.beginOp.dispatchChanges

end Sys2Proof.Machine
end

