-- ==== Sys2Proof/Machine/FieldDecoder.lean ====
section
/-! DEFINITION. Operation family 4, the Bit-Field Decoder: `FIELDS`, `DECODE`, and the TELEGRAM it reads (R160 to R177). -/

namespace Sys2Proof.Machine

/-- The value reported for a field whose parity group fails (R7). -/
def sentinel : Int := 999

/-- A field's value if its group passes, the sentinel if not (R169). -/
def guarded (ok : Bool) (v : Int) : Int := if ok then v else sentinel

/-- The six fields of a telegram with good length and markers (R164 to R170). The weekday is stored one less than its raw value and the
sentinel is not adjusted (R167). -/
def extractFields (t : List Bit) : FieldValues where
  minute := guarded (parityMinute t) (bcd (slice t 21 27))
  hour := guarded (parityHour t) (bcd (slice t 29 34))
  day := guarded (parityDate t) (bcd (slice t 36 41))
  weekday := guarded (parityDate t) ((bcd (slice t 42 44) : Int) - 1)
  month := guarded (parityDate t) (bcd (slice t 45 49))
  year := guarded (parityDate t) (bcd (slice t 50 57))

/-- `FIELDS(T)` (R169): length, then index 0, then index 20 (R161, R162); then all three verdicts, with no short circuit. -/
def fieldsOf (t : List Bit) : DecodeResult :=
  if t.length ≠ 59 then .abort .len
  else if bitAt t 0 ≠ .zero then .abort .mark0
  else if bitAt t 20 ≠ .one then .abort .mark20
  else .fields (extractFields t) (parityMinute t) (parityHour t) (parityDate t)

/-- The date-time a full success commits (R172): the six fields, second and subsecond 0 (R90). -/
def committedTime (f : FieldValues) : DateTime where
  year := f.year
  month := f.month
  day := f.day
  weekday := f.weekday
  hour := f.hour
  minute := f.minute
  second := 0
  subsecond := 0

/-- What a result does to the state (R163, R172, R173): commit on full success, else `valid <- 0` and nothing more. -/
def State.applyDecode (s : State) : DecodeResult → State
  | .abort _ => s.invalidate
  | .fields f ok1 ok2 ok3 => if ok1 && ok2 && ok3 then s.commit (committedTime f) else s.invalidate

/-- `DECODE(T)` (R160): the result goes to `dec` (R171) and is committed or not. -/
def State.decodeTelegram (s : State) (t : List Bit) : State := (s.reportDec (fieldsOf t)).applyDecode (fieldsOf t)

/-- `DECODE T` called directly on a sequence of any length (R160, log 11). -/
def execDecode (t : List Bit) (s : State) : Host.Outcome State Fault Refusal :=
  .next (s.beginOp.decodeTelegram t)

/-- `TELEGRAM`: `DECODE` of the frame the word spells (R86, R160, log 10). -/
def execTelegram (frame : FrameWord) (s : State) : Host.Outcome State Fault Refusal :=
  .next (s.beginOp.decodeTelegram (frameBits frame))

end Sys2Proof.Machine
end

