-- ==== Sys2Proof/Machine/Assembler.lean ====
section
/-! DEFINITION. Operation family 2, the Telegram Assembler: `EDGE.HI` and `EDGE.LO` (R120 to R134). -/

namespace Sys2Proof.Machine

/-- `EDGE.HI ts` while running (R120): pause test, start of the interval, re-arm. -/
def State.risingEdge (s : State) (ts : Timestamp) : State :=
  ((s.detectPause ts s.tHi s.tHiValid).recordHi ts).armWatchdog

/-- Step 3 of `EDGE.LO` (R125): with a recorded start the pulse is measured and classified; without one the outcome is INVALID, nothing is
measured and `CLASSIFY` does not run. -/
def State.measurePulse (s : State) (ts : Timestamp) : PulseClass × State :=
  if s.tHiValid then
    let d := tsdiff s.cfg.tsW ts s.tHi
    let k := classifyPulse s.cfg d
    (k, (s.recordDuration d).reportClass k)
  else (.invalid, s)

/-- Step 5b (R130): after the first bit of a frame the last telegram, if there is one, is decoded and the change dispatched. -/
def State.decodeTrigger (s : State) : State :=
  if s.tick == 1 && s.ltValid then (s.decodeTelegram s.lt).dispatchChanges else s

/-- Step 5 (R127, R128, R130): a valid bit is stored while SYNCHRONIZED, then the frame is completed or the decode triggered; while
SEARCHING it is dropped. -/
def State.acceptBit (s : State) (b : Bit) : State :=
  if s.sync = .synchronized then
    if (s.append b).tick > 58 then (s.append b).complete else (s.append b).decodeTrigger
  else s

/-- Steps 4 and 5 (R126, R127): an INVALID pulse resyncs, a valid one is a bit. -/
def State.consumePulse (s : State) (k : PulseClass) : State :=
  match classBit k with
  | none => s.resync
  | some b => s.acceptBit b

/-- `EDGE.LO ts` while running (R121): the steps in the order written, each seeing the writes of the ones before. -/
def State.fallingEdge (s : State) (ts : Timestamp) : State :=
  let s2 := (s.detectPause ts s.tLo s.tLoValid).recordLo ts
  let m := s2.measurePulse ts
  (m.2.consumePulse m.1).armWatchdog

/-- `EDGE.HI ts` (R120); while stopped it changes nothing (R129). -/
def execEdgeHi (ts : Timestamp) (s : State) : Host.Outcome State Fault Refusal :=
  .next (if s.running then s.beginOp.risingEdge ts else s.beginOp)

/-- `EDGE.LO ts` (R121); while stopped it changes nothing (R129). -/
def execEdgeLo (ts : Timestamp) (s : State) : Host.Outcome State Fault Refusal :=
  .next (if s.running then s.beginOp.fallingEdge ts else s.beginOp)

end Sys2Proof.Machine
end

