-- ==== Sys2Proof/Machine/HostInterface.lean ====
section
/-! DEFINITION. Operation family 6, the host interface (R200 to R209). Each operation is total, running or stopped. -/

namespace Sys2Proof.Machine

/-- `START` (R201). -/
def execStart (s : State) : Host.Outcome State Fault Refusal :=
  .next ((s.beginOp.setRunning true).armWatchdog)

/-- `STOP` (R202). -/
def execStop (s : State) : Host.Outcome State Fault Refusal :=
  .next ((s.beginOp.setRunning false).cancelWatchdog.invalidate)

/-- `SUBSCRIBE kinds, cb` (R203). -/
def execSubscribe (kinds : KindMask) (cb : Bool) (s : State) : Host.Outcome State Fault Refusal :=
  .next (s.beginOp.setSubscription kinds cb)

/-- The record of `GET_LAST_SIGNAL` (R205): zeros while there is no last telegram. -/
def lastSignalRecord (s : State) : Response :=
  if s.ltValid then .lastSignal true s.lt else .lastSignal false (List.replicate 59 .zero)

/-- `GET_LAST_SIGNAL` (R205). -/
def execGetLastSignal (s : State) : Host.Outcome State Fault Refusal :=
  .next (s.beginOp.respond (lastSignalRecord s))

/-- The record of `GET_DATETIME` (R206): `cur`, with the live tick as the second when asked; `cur` itself is not changed. -/
def datetimeRecord (ws : Bool) (s : State) : Response :=
  .datetime { s.cur with second := if ws then (s.tick : Int) else s.cur.second }

/-- `GET_DATETIME ws` (R206). -/
def execGetDatetime (ws : Bool) (s : State) : Host.Outcome State Fault Refusal :=
  .next (s.beginOp.respond (datetimeRecord ws s))

/-- The record of `GET_STATUS` (R207). -/
def statusRecord (s : State) : StatusRecord where
  synchronized := s.sync == .synchronized
  valid := s.valid
  lastPulseDurationMs := s.lastDur
  tickCount := s.tick
  flagsPresent := s.valid
  callBit := s.flagBit s.cfg.callBit
  dstAnnounced := s.flagBit s.cfg.dstAnnBit
  isCEST := s.flagBit s.cfg.cestBit
  isCET := s.flagBit s.cfg.cetBit
  leapSecondAnnounced := s.flagBit s.cfg.leapAnnBit

/-- `GET_STATUS` (R207). -/
def execGetStatus (s : State) : Host.Outcome State Fault Refusal :=
  .next (s.beginOp.respond (.status (statusRecord s)))

end Sys2Proof.Machine
end

