-- ==== Sys2Proof/Machine/Watchdog.lean ====
section
/-! DEFINITION. Operation family 3, the Timeout Watchdog: `TIMEOUT` (R150). The arm and cancel requests are in Ops.lean (R151, R152). -/

namespace Sys2Proof.Machine

/-- The writes of `TIMEOUT`, all together (R150, R71). -/
def State.expire (s : State) : State := s.resync.invalidate.disarm

/-- `TIMEOUT` (R150): total, in every state, whether armed or not. -/
def execTimeout (s : State) : Host.Outcome State Fault Refusal := .next s.beginOp.expire

end Sys2Proof.Machine
end

