-- ==== Sys2Proof/Machine/Dispatch.lean ====
section
/-! DEFINITION. One arm per row of the operation table, each one call of its meaning. -/

namespace Sys2Proof.Machine

def exec (i : Instr) (s : State) : Host.Outcome State Fault Refusal :=
  match i with
  | .edgeHi ts => Sys2Proof.Machine.execEdgeHi ts s
  | .edgeLo ts => Sys2Proof.Machine.execEdgeLo ts s
  | .timeout => Sys2Proof.Machine.execTimeout s
  | .start => Sys2Proof.Machine.execStart s
  | .stop => Sys2Proof.Machine.execStop s
  | .subscribe kinds cb => Sys2Proof.Machine.execSubscribe kinds cb s
  | .getLastSignal => Sys2Proof.Machine.execGetLastSignal s
  | .getDatetime ws => Sys2Proof.Machine.execGetDatetime ws s
  | .getStatus => Sys2Proof.Machine.execGetStatus s
  | .telegram frame => Sys2Proof.Machine.execTelegram frame s
  | .classify d => Sys2Proof.Machine.execClassify d s
  | .decode t => Sys2Proof.Machine.execDecode t s
  | .dispatch => Sys2Proof.Machine.execDispatch s

end Sys2Proof.Machine
end

