-- ==== Sys2Proof/Machine/Deliver.lean ====
section
/-! DEFINITION. What the machine does with one delivered input, and how a word of the table is put where the next step takes it. -/

namespace Sys2Proof.Machine

/-- One input (R40): `rst` resets, an event word runs the operation it spells, a reserved word is refused (R99). -/
def deliver (i : Input) (s : State) : Host.Outcome State Fault Refusal :=
  match i with
  | .rst => .next s.rst
  | .word w =>
    match decode s.cfg (.event w) with
    | .instr i => exec i s
    | .reserved why => .refused (.reservedWord why)

/-- With no input to take, nothing happens: the outputs of the last operation are over (log 7). -/
def idleStep (s : State) : Host.Outcome State Fault Refusal := .next s.beginOp

/-- The machine at the decode trigger of telegram `t` (log 10): synchronized at the start of a frame, `t` the last telegram, a pulse in
progress, and the edge that ends it, a shortest ZERO, the next input. -/
def State.atDecodeTrigger (s : State) (t : List Bit) : State :=
  { s with
    running := true
    sync := .synchronized
    tick := 0
    buf := []
    lt := t
    ltValid := true
    tHi := 0
    tHiValid := true
    pending := .word (eventWord 1 0 s.cfg.falseLo) :: s.pending }

/-- Where step takes its next operation (host's withFetchWord). An event word is the next input. A frame word is no input of the block (R99):
the hardware reads a telegram only at the decode trigger, so the machine is set there (log 10). -/
def State.placeWord (s : State) (nbits w : Nat) : State :=
  if nbits ≤ 40 then { s with pending := .word (BitVec.ofNat 40 w) :: s.pending }
  else s.atDecodeTrigger (frameBits (BitVec.ofNat 59 w))

end Sys2Proof.Machine
end

