-- ==== Sys2Proof/Machine/Step.lean ====
section
/-! DEFINITION. One step: the next input is taken and carried out, atomically (R14, R68). -/

namespace Sys2Proof.Machine

/-- One step of the machine: one operation to completion (R10, R14). -/
def step (s : State) : Host.Outcome State Fault Refusal :=
  match s.fetch with
  | none => idleStep s
  | some (i, s') => deliver i s'

/-- The machine whose next step runs the table word `w` of `nbits` bits (log 6, log 10). -/
def State.withFetchWord (s : State) (nbits w : Nat) : State := s.placeWord nbits w

end Sys2Proof.Machine
end

