-- ==== Sys2Proof/Machine/Trace.lean ====
section
/-! DEFINITION. Trace syntax (R101) and pseudo-operations (R102): how a program, a finite sequence of events (R10), is written (log 23). -/

namespace Sys2Proof.Machine

/-- `PULSE t, w` (R102); timestamps are modulo `2^TS_W`. -/
def pulse (c : Config) (t w : Timestamp) : List Instr :=
  [.edgeHi t, .edgeLo (tsdiff c.tsW (t + w) 0)]

/-- `BIT t, b` (R102): the nominal widths 100 and 200. -/
def bitPulse (c : Config) (t : Timestamp) : Bit → List Instr
  | .zero => pulse c t 100
  | .one => pulse c t 200

/-- `FRAME t0, T` (R102): one pulse a second, in index order. -/
def framePulses (c : Config) : Timestamp → List Bit → List Instr
  | _, [] => []
  | t, b :: bs => bitPulse c t b ++ framePulses c (tsdiff c.tsW (t + 1000) 0) bs

/-- The event words of a trace, as inputs (R96); an internal operation has none (R99). -/
def traceInputs (is : List Instr) : List Input :=
  is.filterMap fun i =>
    match encode i with
    | some (.event w) => some (.word w)
    | _ => none

/-- The name of a kind in a trace (R101). -/
def kindName : Kind → String
  | .minute => "MINUTE"
  | .hour => "HOUR"
  | .day => "DAY"
  | .month => "MONTH"
  | .year => "YEAR"
  | .dstAnnounced => "DST_ANNOUNCED"

/-- `<kinds>` (R101): `0`, or the names joined by a bar, lowest mask bit first. -/
def kindsText (m : KindMask) : String :=
  match allKinds.filter (fun k => m.getLsbD (kindIndex k)) with
  | [] => "0"
  | ks => "|".intercalate (ks.map kindName)

/-- A Bool operand of a trace (R100, R101). -/
def boolText : Bool → String
  | false => "0"
  | true => "1"

/-- One line of a trace (R101), numbers in decimal; an operation with no event word has no line. -/
def traceLine : Instr → Option String
  | .edgeHi ts => some ("EDGE.HI " ++ toString ts.toNat)
  | .edgeLo ts => some ("EDGE.LO " ++ toString ts.toNat)
  | .timeout => some "TIMEOUT"
  | .start => some "START"
  | .stop => some "STOP"
  | .subscribe kinds cb => some ("SUBSCRIBE " ++ kindsText kinds ++ ", " ++ boolText cb)
  | .getLastSignal => some "GET_LAST_SIGNAL"
  | .getDatetime ws => some ("GET_DATETIME " ++ boolText ws)
  | .getStatus => some "GET_STATUS"
  | .telegram _ => none
  | .classify _ => none
  | .decode _ => none
  | .dispatch => none

end Sys2Proof.Machine
end

