-- ==== Sys2Proof/Machine/Packing.lean ====
section
/-! DEFINITION. The register forms of the response records (R208) and of `dec` (R171), as numbers, bit 0 least significant. -/

namespace Sys2Proof.Machine

/-- An integer as a `width`-bit two's-complement number (R8, R171). -/
def twosComplement (width : Nat) (v : Int) : Nat := (v % (2 ^ width : Int)).toNat

/-- Equal-width numbers laid side by side, the first at bit 0. -/
def packFields (width : Nat) : List Nat → Nat
  | [] => 0
  | v :: vs => v + packFields width vs * 2 ^ width

/-- A bit sequence as a number, index 0 at bit 0 (R208). -/
def packBits (bits : List Bit) : Nat := packFields 1 (bits.map bitValue)

/-- The bits of a Bool (R100). -/
def boolValue : Bool → Nat
  | false => 0
  | true => 1

/-- The fields of a date-time in the document's order (R13). -/
def DateTime.inOrder (d : DateTime) : List Int :=
  [d.year, d.month, d.day, d.weekday, d.hour, d.minute, d.second, d.subsecond]

/-- `GET_LAST_SIGNAL`: the bits, then `present` at bit 59 (R208). -/
def packLastSignal (present : Bool) (bits : List Bit) : Nat := packBits bits + boolValue present * 2 ^ 59

/-- `GET_DATETIME`: eight fields of `FIELD_W` bits (R208). -/
def packDatetime (c : Config) (d : DateTime) : Nat := packFields c.fieldW (d.inOrder.map (twosComplement c.fieldW))

/-- `GET_STATUS` (R208): eight flags, six bits of tick count, `TS_W` bits of duration. -/
def packStatus (c : Config) (r : StatusRecord) : Nat :=
  packFields 1
    [boolValue r.synchronized, boolValue r.valid, boolValue r.flagsPresent, bitValue r.callBit, bitValue r.dstAnnounced,
      bitValue r.isCEST, bitValue r.isCET, bitValue r.leapSecondAnnounced]
  + r.tickCount % 2 ^ 6 * 2 ^ 8 + r.lastPulseDurationMs.toNat % 2 ^ c.tsW * 2 ^ 14

/-- The register form of a response record (R208, log 18). -/
def packResponse (c : Config) : Response → Nat
  | .lastSignal present bits => packLastSignal present bits
  | .datetime d => packDatetime c d
  | .status r => packStatus c r

/-- The six field values of `dec` in register form, in the order of R169; on an abort all are 0 (R171). -/
def decRegisters (c : Config) : DecodeResult → List Nat
  | .abort _ => List.replicate 6 0
  | .fields f _ _ _ => [f.minute, f.hour, f.day, f.weekday, f.month, f.year].map (twosComplement c.fieldW)

end Sys2Proof.Machine
end

