-- ==== Sys2Proof/Safety.lean ====
section
/-! DEFINITION. What counts as a safe state and a well-behaved environment: the invariants of R37, the frame position of R132, the
well-timed traces of R153 without and with real time, the edge source's promises of R232. -/

namespace Sys2Proof

open Machine

/-- The frame position (R39, R132): `SEARCH`, or `S(k)`. -/
inductive FramePosition where
  | search
  | slot (k : Nat)
  deriving DecidableEq, Repr

/-- The frame position of a state (R132). -/
def Machine.State.position (s : State) : FramePosition :=
  match s.sync with
  | .searching => .search
  | .synchronized => .slot s.tick

/-- The invariants of R37 (I-a to I-g), with what the spec says beside them: a last telegram has 59 bits (R24, R133 P-c), and the registers
that hold times hold `TS_W`-bit numbers under a legal configuration (R25, R26, R27, R36). -/
structure Machine.State.Inv (s : State) : Prop where
  /-- I-a. -/
  tick_eq_length : s.tick = s.buf.length
  tick_le : s.tick ≤ 58
  /-- I-b. -/
  searching_tick : s.sync = .searching → s.tick = 0
  /-- I-c. -/
  valid_ltValid : s.valid = true → s.ltValid = true
  /-- I-d. -/
  cur_seconds : s.cur.second = 0 ∧ s.cur.subsecond = 0
  prev_seconds : s.prev.second = 0 ∧ s.prev.subsecond = 0
  /-- I-e. -/
  cur_no_sentinel : ∀ v ∈ s.cur.inOrder, v ≠ sentinel
  prev_no_sentinel : ∀ v ∈ s.prev.inOrder, v ≠ sentinel
  /-- I-f. -/
  armed_running : s.wdArmed = true → s.running = true
  /-- I-g. -/
  valid_running : s.valid = true → s.running = true
  /-- R24, R133 (P-c). -/
  lt_length : s.lt.length = 59
  /-- R36. -/
  cfg_ok : s.cfg.ok = true
  /-- R25, R26, R27. -/
  times_fit : fitsTimestamp s.cfg s.tHi = true ∧ fitsTimestamp s.cfg s.tLo = true ∧ fitsTimestamp s.cfg s.lastDur = true

/-- The operation an input spells in a state; `rst` and a reserved word spell none (R99). -/
def Machine.State.operation (s : State) : Input → Option Instr
  | .rst => none
  | .word w => (decode s.cfg (.event w)).toOption

/-- The next input is no `TIMEOUT`, or the watchdog is armed (R153): what a model without time can say of a well-timed trace. -/
def Machine.State.timeoutAllowed (s : State) : Bool :=
  match s.fetch with
  | some (x, s') => s'.operation x != some .timeout || s'.wdArmed
  | none => true

/-- The first `k` steps are well-timed (R153). No rule of the block depends on it (log 14). -/
def Machine.State.wellTimed : Nat → State → Bool
  | 0, _ => true
  | k + 1, s =>
    s.timeoutAllowed &&
      match step s with
      | .next s' => Machine.State.wellTimed k s'
      | _ => true

/-- The level and the timestamp of an edge; no other operation has one (R98). -/
def edgeOf : Instr → Option (Bool × Timestamp)
  | .edgeHi ts => some (true, ts)
  | .edgeLo ts => some (false, ts)
  | .timeout => none
  | .start => none
  | .stop => none
  | .subscribe _ _ => none
  | .getLastSignal => none
  | .getDatetime _ => none
  | .getStatus => none
  | .telegram _ => none
  | .classify _ => none
  | .decode _ => none
  | .dispatch => none

/-- The state in which the input after `x` is taken. A reserved word changes no state (R99), so a trace goes on past it. -/
def Machine.State.after (s : State) (x : Input) : State :=
  match deliver x s with
  | .next t => t
  | .fault _ => s.beginOp
  | .refused _ => s.beginOp

/-- The timestamp of the edge that `x` is, if the block processes it: while stopped an edge is ignored (R129). -/
def Machine.State.processedEdge (s : State) (x : Input) : Option Timestamp :=
  if s.running then ((s.operation x).bind edgeOf).map Prod.snd else none

/-- The timestamp of the last processed edge with no `TIMEOUT` since, once `x` is taken. Reset begins a new trace. -/
def Machine.State.lastEdge (s : State) (last : Option Timestamp) (x : Input) : Option Timestamp :=
  if x = .rst ∨ s.operation x = some .timeout then none else (s.processedEdge x).or last

/-- If `x` is a processed edge, the last one is at most `WD_DELAY` before it by their timestamps. -/
def Machine.State.gapAllowed (s : State) (last : Option Timestamp) (x : Input) : Bool :=
  (s.processedEdge x).all fun ts => last.all fun t => decide ((tsdiff s.cfg.tsW ts t).toNat ≤ wdDelay s.cfg)

/-- Real time carried through the edge timestamps (R153): between two consecutive processed edges more than `WD_DELAY` apart a `TIMEOUT` lies.
`last` is the processed edge before the trace, if no `TIMEOUT` came since. As the rule has it, a `STOP` or `START` between does not
excuse the `TIMEOUT` (log 14). -/
def silenceTimed : Option Timestamp → List Input → State → Bool
  | _, [], _ => true
  | last, x :: xs, s => s.gapAllowed last x && silenceTimed (s.lastEdge last x) xs (s.after x)

/-- An input and the real time, in milliseconds, at which it is delivered (R153). -/
structure TimedInput where
  time : Nat
  input : Input
  deriving DecidableEq, Repr

/-- What a trace knows of the external one-shot timer (R233): the time of the last input, and that of the most recent arm request if it has
neither fired nor been cancelled. -/
structure Timer where
  now : Nat
  armedAt : Option Nat
  deriving DecidableEq, Repr

/-- Time does not run back, and up to `now` no arm request has been pending longer than `WD_DELAY` (R153). `accuracy` is how late the timer may
be, which the spec leaves to the environment (U17). -/
def Timer.onTime (tm : Timer) (c : Config) (accuracy now : Nat) : Bool :=
  decide (tm.now ≤ now) && tm.armedAt.all fun a => decide (now ≤ a + wdDelay c + accuracy)

/-- A `TIMEOUT` may occur: `WD_DELAY` has passed since the most recent arm request (R153). -/
def Timer.expired (tm : Timer) (c : Config) (now : Nat) : Bool :=
  tm.armedAt.any fun a => decide (a + wdDelay c ≤ now)

/-- The timer once an operation has led to `t`: each arm request replaces the one before (R151), and without one the request is pending as long as
`wd_armed` says (R35). -/
def Timer.next (tm : Timer) (now : Nat) (t : State) : Timer where
  now := now
  armedAt := if t.ports.wdArm.isSome then some now else if t.wdArmed then tm.armedAt else none

/-- A trace in real time, observed up to `horizon`, is well-timed (R153): every `TIMEOUT` occurs when `wd_armed = 1` and at least `WD_DELAY` after
the most recent arm request, and no arm request stays pending longer than that. -/
def wellTimedTrace (accuracy : Nat) : Timer → List TimedInput → (horizon : Nat) → State → Bool
  | tm, [], horizon, s => tm.onTime s.cfg accuracy horizon
  | tm, x :: xs, horizon, s =>
    tm.onTime s.cfg accuracy x.time &&
      (s.operation x.input != some .timeout || (s.wdArmed && tm.expired s.cfg x.time)) &&
      wellTimedTrace accuracy (tm.next x.time (s.after x.input)) xs horizon (s.after x.input)

/-- The edge source's promise (R232 a): edges alternate, `high` being the level before the first. The block's rules do not need it (R263, log 25). -/
def edgesAlternate : Bool → List Instr → Bool
  | _, [] => true
  | high, i :: is =>
    match edgeOf i with
    | some (level, _) => (level != high) && edgesAlternate level is
    | none => edgesAlternate high is

end Sys2Proof
end

