-- ==== Sys2Proof/Certificates/Slice0/Obligations.lean ====
section
/-! DEFINITION. The statements for the provers. Each docstring names the rule of spec/ it formalises; where a statement rests on a decision the
spec marks as its own, or on a choice of this model, it says so and names the decision or the log entry. -/

namespace Sys2Proof.Claims

open Machine

/-! Words the statements share, written from the spec and not from the model's own operations. -/

/-- The ports of an operation that puts out nothing: only the most recent decode result stays (log 4, log 5). -/
def quietPorts (s : State) : Ports where
  rsp := none
  irq := false
  wdArm := none
  wdCancel := false
  cls := none
  dec := s.ports.dec

/-- The ports of a processed edge: one arm request with delay `PAUSE_HI + 1000` (R131, R151), and the class of its pulse. -/
def edgePorts (s : State) (k : Option PulseClass) : Ports :=
  { quietPorts s with wdArm := some (s.cfg.pauseHi.toNat + 1000), cls := k }

/-- `(a - b) mod 2^TS_W`, in milliseconds (R12, R94). -/
def elapsed (s : State) (a b : Timestamp) : Nat := (a - b).toNat % 2 ^ s.cfg.tsW

/-- The pause test of one edge (R82, R122 b, c). -/
abbrev PauseSeen (s : State) (ts last : Timestamp) (lastValid : Bool) : Prop :=
  lastValid = true ∧ s.cfg.pauseLo.toNat ≤ elapsed s ts last ∧ elapsed s ts last ≤ s.cfg.pauseHi.toNat

/-- The pulse-width code (R80), `falseRange` first (R111). -/
def spells (c : Config) (d : Nat) : PulseClass :=
  if c.falseLo.toNat ≤ d ∧ d ≤ c.falseHi.toNat then .zero
  else if c.trueLo.toNat ≤ d ∧ d ≤ c.trueHi.toNat then .one
  else .invalid

/-- The outcome of step 3 of `EDGE.LO` (R125): INVALID if there is no recorded start. -/
def pulseOutcome (s : State) (ts : Timestamp) : PulseClass :=
  if s.tHiValid = true then spells s.cfg (elapsed s ts s.tHi) else .invalid

/-- The class of a storable bit (R13). -/
def bitClass : Bit → PulseClass
  | .zero => .zero
  | .one => .one

/-- The value of the bit of index `i` (R11). -/
def val (t : List Bit) (i : Nat) : Nat := if t.getD i .zero = .one then 1 else 0

/-- The number of ones at the indices `a` to `b` (R12). -/
def onesBetween (t : List Bit) (a b : Nat) : Nat := ((List.range (b + 1 - a)).map fun k => val t (a + k)).sum

/-- One bit of a telegram flipped. -/
def flipAt (t : List Bit) (i : Nat) : List Bit := t.set i (if t.getD i .zero = .one then .zero else .one)

/-- Two date-times with the same five fields that have a kind (R31, R191). -/
abbrev SameFiveFields (x y : DateTime) : Prop :=
  x.minute = y.minute ∧ x.hour = y.hour ∧ x.day = y.day ∧ x.month = y.month ∧ x.year = y.year

/-- A row of the operation table (R97). -/
structure Row where
  name : String
  mask : EventWord
  bits : EventWord

/-- The nine rows of R97: mnemonic, mask, match. -/
def eventRows : List Row :=
  [⟨"EDGE.HI", 0xFF00000000, 0x1100000000⟩, ⟨"EDGE.LO", 0xFF00000000, 0x1000000000⟩, ⟨"TIMEOUT", 0xFFFFFFFFFF, 0x2000000000⟩,
   ⟨"START", 0xFFFFFFFFFF, 0x3000000000⟩, ⟨"STOP", 0xFFFFFFFFFF, 0x4000000000⟩, ⟨"SUBSCRIBE", 0xFFFFFFFF80, 0x5000000000⟩,
   ⟨"GET_LAST_SIGNAL", 0xFFFFFFFFFF, 0x6000000000⟩, ⟨"GET_DATETIME", 0xFFFFFFFFFE, 0x7000000000⟩,
   ⟨"GET_STATUS", 0xFFFFFFFFFF, 0x8000000000⟩]

/-- The mnemonic of an instruction's row. -/
def mnemonic : Instr → String
  | .edgeHi _ => "EDGE.HI"
  | .edgeLo _ => "EDGE.LO"
  | .timeout => "TIMEOUT"
  | .start => "START"
  | .stop => "STOP"
  | .subscribe _ _ => "SUBSCRIBE"
  | .getLastSignal => "GET_LAST_SIGNAL"
  | .getDatetime _ => "GET_DATETIME"
  | .getStatus => "GET_STATUS"
  | .telegram _ => "TELEGRAM"
  | .classify _ => "CLASSIFY"
  | .decode _ => "DECODE"
  | .dispatch => "DISPATCH"

/-- The reserved field values as R99 lists them, with the timestamp bits R96 forbids. -/
abbrev ReservedFields (c : Config) (op a p : Nat) : Prop :=
  op = 0 ∨ 9 ≤ op ∨ (op = 1 ∧ 2 ≤ a) ∨ (op ≠ 1 ∧ a ≠ 0) ∨ (op = 1 ∧ 2 ^ c.tsW ≤ p) ∨
    (op ∈ [2, 3, 4, 6, 8] ∧ p ≠ 0) ∨ (op = 5 ∧ 2 ^ 7 ≤ p) ∨ (op = 7 ∧ 2 ≤ p)

/-- The reserved event words, on the word's numeric slices. -/
abbrev ReservedEvent (c : Config) (w : EventWord) : Prop :=
  ReservedFields c (w.toNat / 2 ^ 36) (w.toNat / 2 ^ 32 % 16) (w.toNat % 2 ^ 32)

/-- `EDGE.HI ts` as a word: `0x1100000000 + ts` (R97). -/
def hiWord (ts : Timestamp) : EventWord := BitVec.ofNat 40 (0x1100000000 + ts.toNat)

/-- `EDGE.LO ts` as a word: `0x1000000000 + ts` (R97). -/
def loWord (ts : Timestamp) : EventWord := BitVec.ofNat 40 (0x1000000000 + ts.toNat)

/-- One pulse on its way in: the time it begins, the time it ends, the bit it is to spell. -/
structure Pulse where
  hi : Timestamp
  lo : Timestamp
  bit : Bit
  deriving DecidableEq, Repr

/-- The event words of a pulse (R102). -/
def pulseWords (p : Pulse) : List Input := [.word (hiWord p.hi), .word (loWord p.lo)]

/-- The state after steps 1 to 3 and the append of an `EDGE.LO` that stores `b` (R121), but for the watchdog request. -/
def withBit (s : State) (ts : Timestamp) (b : Bit) : State :=
  { s with
    tLo := ts
    tLoValid := true
    lastDur := BitVec.ofNat 32 (elapsed s ts s.tHi)
    buf := s.buf ++ [b]
    tick := s.tick + 1
    wdArmed := true
    ports := edgePorts s (some (bitClass b)) }

/-- The `EDGE.HI` column of the table of R132. -/
def nextOnRise (s : State) (ts : Timestamp) : FramePosition :=
  if s.running = true ∧ s.position = .search ∧ PauseSeen s ts s.tHi s.tHiValid then .slot 0 else s.position

/-- The rows of a bit accepted (R132): while searching it counts only if the edge saw a pause. -/
def nextOnBit (paused : Prop) [Decidable paused] : FramePosition → FramePosition
  | .search => if paused then .slot 1 else .search
  | .slot k => if k = 58 then .slot 0 else .slot (k + 1)

/-- The `EDGE.LO` columns of the table of R132. -/
def nextOnFall (s : State) (ts : Timestamp) : FramePosition :=
  if s.running = false then s.position
  else if pulseOutcome s ts = .invalid then .search
  else nextOnBit (PauseSeen s ts s.tLo s.tLoValid) s.position

/-- The table of the frame position (R132). -/
def tableNext (s : State) : Instr → FramePosition
  | .edgeHi ts => nextOnRise s ts
  | .edgeLo ts => nextOnFall s ts
  | .timeout => .search
  | .start => s.position
  | .stop => s.position
  | .subscribe _ _ => s.position
  | .getLastSignal => s.position
  | .getDatetime _ => s.position
  | .getStatus => s.position
  | .telegram _ => s.position
  | .classify _ => s.position
  | .decode _ => s.position
  | .dispatch => s.position

/-- The eight fields a commit writes (R172). -/
def committed (f : FieldValues) : DateTime := ⟨f.year, f.month, f.day, f.weekday, f.hour, f.minute, 0, 0⟩

/-- The telegram an operation decodes in a state, if it decodes one: its own operand, or the last telegram at the decode trigger (R130). -/
def decodes (s : State) : Instr → Option (List Bit)
  | .telegram frame => some ((List.range 59).map fun i => if frame.getLsbD i = true then Bit.one else Bit.zero)
  | .decode t => some t
  | .edgeLo ts =>
    if s.running = true ∧ s.ltValid = true ∧ pulseOutcome s ts ≠ .invalid ∧
        ((s.sync = .synchronized ∧ s.tick = 0) ∨ (s.sync = .searching ∧ PauseSeen s ts s.tLo s.tLoValid))
    then some s.lt else none
  | .edgeHi _ => none
  | .timeout => none
  | .start => none
  | .stop => none
  | .subscribe _ _ => none
  | .getLastSignal => none
  | .getDatetime _ => none
  | .getStatus => none
  | .classify _ => none
  | .dispatch => none

/-- The operations run one after another from `s` to `t`, and none of them decodes a telegram in the state it runs in. -/
def RunsWithoutDecode : State → List Instr → State → Prop
  | s, [], t => t = s
  | s, i :: is, t => decodes s i = none ∧ ∃ u, exec i s = .next u ∧ RunsWithoutDecode u is t

/-- An input after which a request to the watchdog's timer is pending as before: neither a reset, nor `TIMEOUT`, `START` or `STOP`, nor an edge. -/
def LeavesTimer (c : Config) : Input → Prop
  | .rst => False
  | .word w => ∀ i, decode c (.event w) = .instr i →
      i ≠ .timeout ∧ i ≠ .start ∧ i ≠ .stop ∧ ∀ ts, i ≠ .edgeHi ts ∧ i ≠ .edgeLo ts

end Sys2Proof.Claims

open Sys2Proof Sys2Proof.Machine Sys2Proof.Claims

/-! Encoding and step. -/

/-- Words written out from R97 and R86 decode to the operations they stand for. Rests on the spec's own decision D1 (the event word) and on the
model's log 10 (the frame's bit numbering). -/
def Obligations.WordsDecodeToTheirOperations : Prop :=
  decodeTableWord 40 0x1100001388 = some (.edgeHi 5000) ∧
  decodeTableWord 40 0x1000013948 = some (.edgeLo 80200) ∧
  decodeTableWord 40 0x2000000000 = some .timeout ∧
  decodeTableWord 40 0x3000000000 = some .start ∧
  decodeTableWord 40 0x4000000000 = some .stop ∧
  decodeTableWord 40 0x5000000061 = some (.subscribe 0b100001 true) ∧
  decodeTableWord 40 0x6000000000 = some .getLastSignal ∧
  decodeTableWord 40 0x7000000001 = some (.getDatetime true) ∧
  decodeTableWord 40 0x8000000000 = some .getStatus ∧
  decodeTableWord 64 0x49A290A76F40000 = some (.telegram 0x49A290A76F40000) ∧
  decodeTableWord 40 0x5000000080 = none

/-- Decoding the word of a well-formed instruction gives it back, every operand at every value, under every configuration. Rests on the spec's
decision D1. -/
def Obligations.DecodeInvertsEncode : Prop :=
  ∀ (c : Config) (i : Instr) (w : CodeWord), i.wf c = true → encode i = some w → decode c w = .instr i

/-- A word that decodes is the encoding of what it decodes to, which is well formed: each word has one meaning. Rests on decision D1. -/
def Obligations.EncodeInvertsDecode : Prop :=
  ∀ (c : Config) (w : CodeWord) (i : Instr), decode c w = .instr i → encode i = some w ∧ i.wf c = true

/-- At `TS_W = 32` a word spells the operation of a mnemonic iff it matches that mnemonic's mask and match of the table. Rests on decision D1. -/
def Obligations.EventWordsSpellTheRowsTheyMatch : Prop :=
  ∀ (c : Config) (w : EventWord) (name : String), c.tsW = 32 →
    ((∃ i, decode c (.event w) = .instr i ∧ mnemonic i = name) ↔ ∃ r ∈ eventRows, r.name = name ∧ w &&& r.mask = r.bits)

/-- When the next input is a word that decodes, a step is the decoded operation on the machine that has taken it. That inputs wait in a list is the
model's choice (log 6). -/
def Obligations.StepRunsTheDecodedEvent : Prop :=
  ∀ (s : State) (w : EventWord) (rest : List Input) (i : Instr), s.pending = .word w :: rest → decode s.cfg (.event w) = .instr i →
    step s = exec i { s with pending := rest }

/-- A step refuses its word iff the word is reserved as R99 lists. Rests on the spec's decisions D1 and D28 and on the model's log 8 (a refused word
stops the run). -/
def Obligations.StepRefusesExactlyTheReservedWords : Prop :=
  ∀ (s : State) (w : EventWord) (rest : List Input), s.pending = .word w :: rest →
    ((∃ why, step s = .refused (.reservedWord why)) ↔ ReservedEvent s.cfg w)

/-- With no input a step changes nothing but the ports, which are quiet again. The model's choice (log 7). -/
def Obligations.StepWithoutInputIsQuiet : Prop :=
  ∀ s : State, s.pending = [] → step s = .next { s with ports := quietPorts s }

/-- R220: no operation raises: every operation of every state answers a next state, and an edge processed while running ends with the watchdog re-armed.
The configuration and the inputs in the state are the model's (log 1, log 6). -/
def Obligations.EveryOperationCompletes : Prop :=
  ∀ (i : Instr) (s : State), ∃ t, exec i s = .next t ∧ t.cfg = s.cfg ∧ t.pending = s.pending ∧
    (s.running = true → (∃ ts, i = .edgeHi ts ∨ i = .edgeLo ts) → t.wdArmed = true ∧ t.ports.wdArm = some (s.cfg.pauseHi.toNat + 1000))

/-! Reset. -/

/-- The values R41 and R250 give for reset. They are the spec's decision D25; `lt`, `t_hi` and `t_lo` are not among them (log 2). -/
def Obligations.ResetLeavesTheStatedValues : Prop :=
  State.reset.sync = .searching ∧ State.reset.tick = 0 ∧ State.reset.buf = [] ∧ State.reset.ltValid = false ∧
  State.reset.tHiValid = false ∧ State.reset.tLoValid = false ∧ State.reset.lastDur = 0 ∧
  State.reset.cur = ⟨0, 0, 0, 0, 0, 0, 0, 0⟩ ∧ State.reset.prev = ⟨0, 0, 0, 0, 0, 0, 0, 0⟩ ∧ State.reset.valid = false ∧
  State.reset.subKinds = 0 ∧ State.reset.cbEn = false ∧ State.reset.dstLatch = .zero ∧ State.reset.running = false ∧
  State.reset.wdArmed = false ∧ State.reset.ports.irq = false ∧ State.reset.ports.wdArm = none ∧ State.reset.ports.wdCancel = false

/-- The `rst` input puts every element at its reset value from any state, keeps the configuration and pulses nothing (R250, decision D25). That
inputs still to come stay is the model's choice (log 9). -/
def Obligations.ResetInputRestoresTheResetValues : Prop :=
  ∀ (s : State) (rest : List Input), s.pending = .rst :: rest → ∃ t, step s = .next t ∧
    t.sync = .searching ∧ t.tick = 0 ∧ t.buf = [] ∧ t.ltValid = false ∧ t.tHiValid = false ∧ t.tLoValid = false ∧ t.lastDur = 0 ∧
    t.cur = ⟨0, 0, 0, 0, 0, 0, 0, 0⟩ ∧ t.prev = ⟨0, 0, 0, 0, 0, 0, 0, 0⟩ ∧ t.valid = false ∧ t.subKinds = 0 ∧ t.cbEn = false ∧
    t.dstLatch = .zero ∧ t.running = false ∧ t.wdArmed = false ∧ t.ports.irq = false ∧ t.ports.wdArm = none ∧
    t.ports.wdCancel = false ∧ t.cfg = s.cfg ∧ t.pending = rest

/-! The Pulse Classifier. -/

/-- R110: `CLASSIFY(d)` is ZERO in `falseRange`, else ONE in `trueRange`, else INVALID, both ends of a range included; it depends on `d` and the four
configuration numbers and on nothing else, and writes no state; with the default ranges it is ZERO iff 50 to 130, ONE iff 150 to 230, INVALID
otherwise. The class is shown on the model's own `cls` (log 4). -/
def Obligations.ClassifyFollowsTheRanges : Prop :=
  ∀ (d : Duration) (s : State), ∃ k, exec (.classify d) s = .next { s with ports := { quietPorts s with cls := some k } } ∧
    (k = .zero ↔ s.cfg.falseLo.toNat ≤ d.toNat ∧ d.toNat ≤ s.cfg.falseHi.toNat) ∧
    (k = .one ↔ ¬(s.cfg.falseLo.toNat ≤ d.toNat ∧ d.toNat ≤ s.cfg.falseHi.toNat) ∧
      s.cfg.trueLo.toNat ≤ d.toNat ∧ d.toNat ≤ s.cfg.trueHi.toNat) ∧
    (k = .invalid ↔ ¬(s.cfg.falseLo.toNat ≤ d.toNat ∧ d.toNat ≤ s.cfg.falseHi.toNat) ∧
      ¬(s.cfg.trueLo.toNat ≤ d.toNat ∧ d.toNat ≤ s.cfg.trueHi.toNat)) ∧
    (s.cfg = .standard →
      (k = .zero ↔ 50 ≤ d.toNat ∧ d.toNat ≤ 130) ∧ (k = .one ↔ 150 ≤ d.toNat ∧ d.toNat ≤ 230) ∧
      (k = .invalid ↔ d.toNat < 50 ∨ (130 < d.toNat ∧ d.toNat < 150) ∨ 230 < d.toNat))

/-! The Telegram Assembler. -/

/-- R129: an edge while stopped changes no state and requests nothing. Rests on the spec's decision D14. -/
def Obligations.EdgesWhileStoppedAreIgnored : Prop :=
  ∀ (s : State) (ts : Timestamp), s.running = false →
    exec (.edgeHi ts) s = .next { s with ports := quietPorts s } ∧ exec (.edgeLo ts) s = .next { s with ports := quietPorts s }

/-- R120 while running: the pause test against the previous `EDGE.HI` synchronizes a searching block, the start is recorded, the watchdog re-armed,
and nothing else changes. Rests on the spec's decisions D5 to D8. -/
def Obligations.RisingEdgeWhileRunning : Prop :=
  ∀ (s : State) (ts : Timestamp), s.running = true →
    exec (.edgeHi ts) s = .next
      { (if s.sync = .searching ∧ PauseSeen s ts s.tHi s.tHiValid then { s with sync := .synchronized, tick := 0, buf := [] } else s) with
        tHi := ts, tHiValid := true, wdArmed := true, ports := edgePorts s none }

/-- R126 and R125: an `EDGE.LO` whose pulse is INVALID, or that has no recorded start, ends searching with the frame discarded; `valid`, the last
telegram and the decoded time stay. Rests on the spec's decisions D7, D9 and D11. -/
def Obligations.InvalidPulseResyncs : Prop :=
  ∀ (s : State) (ts : Timestamp), s.running = true → pulseOutcome s ts = .invalid →
    exec (.edgeLo ts) s = .next
      { s with
        sync := .searching, tick := 0, buf := [], tLo := ts, tLoValid := true, wdArmed := true
        lastDur := if s.tHiValid = true then BitVec.ofNat 32 (elapsed s ts s.tHi) else s.lastDur
        ports := edgePorts s (if s.tHiValid = true then some .invalid else none) }

/-- R127: while searching, with no pause, a valid pulse is measured and dropped. Which edge measures and when there is no pause are the spec's decisions
D5 to D7. -/
def Obligations.BitsAreDroppedWhileSearching : Prop :=
  ∀ (s : State) (ts : Timestamp) (b : Bit), s.running = true → s.sync = .searching → ¬PauseSeen s ts s.tLo s.tLoValid →
    pulseOutcome s ts = bitClass b →
    exec (.edgeLo ts) s = .next
      { s with
        tLo := ts, tLoValid := true, wdArmed := true, lastDur := BitVec.ofNat 32 (elapsed s ts s.tHi)
        ports := edgePorts s (some (bitClass b)) }

/-- R122: at an `EDGE.LO` a pause seen while searching has the effect of the same edge on the block already synchronized at `S(0)`. Rests on the
spec's decision D6. -/
def Obligations.FallingEdgePauseSynchronizesFirst : Prop :=
  ∀ (s : State) (ts : Timestamp), s.running = true → s.sync = .searching → PauseSeen s ts s.tLo s.tLoValid →
    exec (.edgeLo ts) s = exec (.edgeLo ts) { s with sync := .synchronized, tick := 0, buf := [] } ∧
    (pulseOutcome s ts ≠ .invalid → ∃ t, exec (.edgeLo ts) s = .next t ∧ t.sync = .synchronized ∧ t.tick = 1 ∧ t.buf.length = 1)

/-- R127: while synchronized, an accepted bit that neither completes the frame nor triggers the decode is appended and counted, and nothing but the
edge's own registers changes beside it. Which edge measures is the spec's decision D5. -/
def Obligations.AcceptedBitIsAppended : Prop :=
  ∀ (s : State) (ts : Timestamp) (b : Bit), s.running = true → s.sync = .synchronized → s.tick ≤ 57 →
    ¬(s.tick = 0 ∧ s.ltValid = true) → pulseOutcome s ts = bitClass b → exec (.edgeLo ts) s = .next (withBit s ts b)

/-- R128: the bit that brings the tick counter above 58 moves the whole buffer to the last telegram, empties the buffer and zeroes the counter; the
block stays synchronized and nothing is decoded. Which edge measures is the spec's decision D5. -/
def Obligations.FiftyNinthBitCompletesTheFrame : Prop :=
  ∀ (s : State) (ts : Timestamp) (b : Bit), s.running = true → s.sync = .synchronized → 58 ≤ s.tick → pulseOutcome s ts = bitClass b →
    exec (.edgeLo ts) s = .next { withBit s ts b with lt := s.buf ++ [b], ltValid := true, buf := [], tick := 0 }

/-- R130: the first bit of a frame, when a last telegram exists, runs `DECODE(lt)` and then `DISPATCH()` inside the same `EDGE.LO`. Rests on the spec's
decisions D15 and D21. -/
def Obligations.FirstBitDecodesAndDispatches : Prop :=
  ∀ (s : State) (ts : Timestamp) (b : Bit), s.running = true → s.sync = .synchronized → s.tick = 0 → s.ltValid = true →
    pulseOutcome s ts = bitClass b →
    ∃ u v, exec (.decode s.lt) (withBit s ts b) = .next u ∧ exec .dispatch u = .next v ∧
      exec (.edgeLo ts) s = .next { v with ports := { edgePorts s (some (bitClass b)) with irq := v.ports.irq, dec := v.ports.dec } }

/-- R132: every operation moves the frame position as the table says. Derived in the spec from R120 to R131. -/
def Obligations.FramePositionFollowsTheTable : Prop :=
  ∀ (s : State) (i : Instr), s.Inv → ∃ t, exec i s = .next t ∧ t.position = tableNext s i

/-- R21: SYNCHRONIZED is entered only at a pause, and left only by an INVALID outcome or by `TIMEOUT`. Rests on decisions D6 and D7 of the spec. -/
def Obligations.SynchronizationChangesOnlyAsStated : Prop :=
  ∀ (s t : State) (i : Instr), exec i s = .next t →
    (s.sync = .searching → t.sync = .synchronized → s.running = true ∧
      ∃ ts, (i = .edgeHi ts ∧ PauseSeen s ts s.tHi s.tHiValid) ∨ (i = .edgeLo ts ∧ PauseSeen s ts s.tLo s.tLoValid)) ∧
    (s.sync = .synchronized → t.sync = .searching →
      i = .timeout ∨ (s.running = true ∧ ∃ ts, i = .edgeLo ts ∧ pulseOutcome s ts = .invalid))

/-- R94: the edge rules see only differences of timestamps modulo `2^TS_W`: moving an edge and both recorded timestamps by one amount moves the
recorded timestamps and nothing else. Rests on the spec's decision D2. -/
def Obligations.EdgesDependOnTimeDifferencesOnly : Prop :=
  ∀ (s t : State) (ts k : Timestamp) (high : Bool),
    let edge := fun x => if high = true then Instr.edgeHi x else Instr.edgeLo x
    exec (edge ts) s = .next t →
    exec (edge (ts + k)) { s with tHi := s.tHi + k, tLo := s.tLo + k } = .next { t with tHi := t.tHi + k, tLo := t.tLo + k }

/-- R128: 59 pulses that classify ZERO or ONE, delivered to a running block at `S(0)`, complete exactly one telegram: the last telegram is untouched
up to the last event and then holds the 59 bits in order, with the buffer empty and the block at `S(0)` again. The words are the spec's decision D1,
the measuring edge D5; that inputs wait in a list is log 6. -/
def Obligations.FiftyNinePulsesMakeOneTelegram : Prop :=
  ∀ (s : State) (ps : List Pulse) (rest : List Input), s.running = true → s.sync = .synchronized → s.tick = 0 → s.buf = [] →
    ps.length = 59 →
    (∀ p ∈ ps, p.hi.toNat < 2 ^ s.cfg.tsW ∧ p.lo.toNat < 2 ^ s.cfg.tsW ∧ spells s.cfg (elapsed s p.lo p.hi) = bitClass p.bit) →
    s.pending = ps.flatMap pulseWords ++ rest →
    (∀ k < 118, ∃ u, core.run k s = .next u ∧ State.lt u = s.lt) ∧
    ∃ t : State, core.run 118 s = .next t ∧ t.lt = ps.map Pulse.bit ∧ t.ltValid = true ∧ t.buf = [] ∧ t.tick = 0 ∧
      t.sync = .synchronized ∧ t.pending = rest

/-! The watchdog. -/

/-- R150: `TIMEOUT` forces SEARCHING, clears `valid`, the counter and the buffer together, and nothing else changes. Its clearing of `wd_armed` and its
being total are the spec's decision D13. -/
def Obligations.TimeoutForcesTheSearch : Prop :=
  ∀ s : State, exec .timeout s = .next
    { s with sync := .searching, valid := false, tick := 0, buf := [], wdArmed := false, ports := quietPorts s }

/-- R155: the two orders of an `EDGE.HI` and a `TIMEOUT`. After the timeout last the search is forced; after the edge last the block runs from SEARCH,
re-synchronizes if the edge saw a pause, and is armed. Rests on the spec's decisions D13 and D31. -/
def Obligations.EdgeAndTimeoutOrdersDiffer : Prop :=
  ∀ (s : State) (ts : Timestamp), s.running = true →
    ∃ u v w x, exec (.edgeHi ts) s = .next u ∧ exec .timeout u = .next v ∧ exec .timeout s = .next w ∧ exec (.edgeHi ts) w = .next x ∧
      v = { s with sync := .searching, tick := 0, buf := [], valid := false, tHi := ts, tHiValid := true, wdArmed := false, ports := quietPorts s } ∧
      x = { v with
        sync := if PauseSeen s ts s.tHi s.tHiValid then .synchronized else .searching
        wdArmed := true
        ports := edgePorts s none }

/-- R151 and R152: an arm request, carrying `PAUSE_HI + 1000`, is made by `START` and by every edge processed while running and by nothing else; a cancel
request by `STOP` alone; each sets the bookkeeping bit. That edges count only while running is the spec's decision D14. -/
def Obligations.WatchdogRequestsHaveTheStatedSources : Prop :=
  ∀ (s : State) (i : Instr), ∃ t, exec i s = .next t ∧
    (t.ports.wdArm ≠ none ↔ i = .start ∨ (s.running = true ∧ ∃ ts, i = .edgeHi ts ∨ i = .edgeLo ts)) ∧
    (∀ n, t.ports.wdArm = some n → n = s.cfg.pauseHi.toNat + 1000 ∧ t.wdArmed = true) ∧
    (t.ports.wdCancel = true ↔ i = .stop) ∧ (t.ports.wdCancel = true → t.wdArmed = false)

/-! The Bit-Field Decoder. -/

/-- R164, R165, R166, R168, R170: in a telegram of good length and markers each field is the weighted sum of its bits if its parity group passes, and 999
if not. Rests on the spec's decision D18 (the third group covers 36 to 57 and spoils day, month and year together: R91, R174) and D17 (999
stands on `dec`: R171). -/
def Obligations.FieldsAreWeightedSumsOrSentinel : Prop :=
  ∀ (s : State) (t : List Bit), t.length = 59 → val t 0 = 0 → val t 20 = 1 → ∃ u f ok1 ok2 ok3,
    exec (.decode t) s = .next u ∧ u.ports.dec = some (.fields f ok1 ok2 ok3) ∧
    f.minute = (if (onesBetween t 21 27 + val t 28) % 2 = 0 then
      ((val t 21 + 2 * val t 22 + 4 * val t 23 + 8 * val t 24 + 10 * val t 25 + 20 * val t 26 + 40 * val t 27 : Nat) : Int) else 999) ∧
    f.hour = (if (onesBetween t 29 34 + val t 35) % 2 = 0 then
      ((val t 29 + 2 * val t 30 + 4 * val t 31 + 8 * val t 32 + 10 * val t 33 + 20 * val t 34 : Nat) : Int) else 999) ∧
    f.day = (if (onesBetween t 36 57 + val t 58) % 2 = 0 then
      ((val t 36 + 2 * val t 37 + 4 * val t 38 + 8 * val t 39 + 10 * val t 40 + 20 * val t 41 : Nat) : Int) else 999) ∧
    f.month = (if (onesBetween t 36 57 + val t 58) % 2 = 0 then
      ((val t 45 + 2 * val t 46 + 4 * val t 47 + 8 * val t 48 + 10 * val t 49 : Nat) : Int) else 999) ∧
    f.year = (if (onesBetween t 36 57 + val t 58) % 2 = 0 then
      ((val t 50 + 2 * val t 51 + 4 * val t 52 + 8 * val t 53 + 10 * val t 54 + 20 * val t 55 + 40 * val t 56 + 80 * val t 57 : Nat) : Int)
      else 999)

/-- R167: the weekday is the weighted sum less one, from -1 to 6, and the sentinel is not adjusted. Rests on the spec's decisions D19,
D18 (the group) and D17 (999 on `dec`). -/
def Obligations.WeekdayIsStoredZeroBased : Prop :=
  ∀ (s : State) (t : List Bit), t.length = 59 → val t 0 = 0 → val t 20 = 1 → ∃ u f ok1 ok2 ok3,
    exec (.decode t) s = .next u ∧ u.ports.dec = some (.fields f ok1 ok2 ok3) ∧
    (f.weekday = 999 ∨ (-1 ≤ f.weekday ∧ f.weekday ≤ 6)) ∧
    f.weekday = (if (onesBetween t 36 57 + val t 58) % 2 = 0 then ((val t 42 + 2 * val t 43 + 4 * val t 44 : Nat) : Int) - 1 else 999)

/-- R92: each of the three groups passes iff the ones of its data bits and its parity bit together are even. The extents of the groups are R91, with the
spec's decision D18. -/
def Obligations.ParityGroupsPassWhenEven : Prop :=
  ∀ (s : State) (t : List Bit), t.length = 59 → val t 0 = 0 → val t 20 = 1 → ∃ u f ok1 ok2 ok3,
    exec (.decode t) s = .next u ∧ u.ports.dec = some (.fields f ok1 ok2 ok3) ∧
    (ok1 = true ↔ (onesBetween t 21 27 + val t 28) % 2 = 0) ∧
    (ok2 = true ↔ (onesBetween t 29 34 + val t 35) % 2 = 0) ∧
    (ok3 = true ↔ (onesBetween t 36 57 + val t 58) % 2 = 0)

/-- R174: in a telegram whose three groups pass, one flipped bit anywhere in `T[21..58]` fails exactly one group. Rests on the spec's decision D18. -/
def Obligations.OneFlippedBitFailsOneGroup : Prop :=
  ∀ (s u : State) (t : List Bit) (f : FieldValues) (i : Nat), exec (.decode t) s = .next u →
    u.ports.dec = some (.fields f true true true) → 21 ≤ i → i ≤ 58 →
    ∃ v g ok1 ok2 ok3, exec (.decode (flipAt t i)) s = .next v ∧ v.ports.dec = some (.fields g ok1 ok2 ok3) ∧ v.valid = false ∧
      (ok1 = false ↔ i ≤ 28) ∧ (ok2 = false ↔ 29 ≤ i ∧ i ≤ 35) ∧ (ok3 = false ↔ 36 ≤ i)

/-- R161 and R162: the length is tested first, then index 0, then index 20; an abort clears `valid` and changes nothing else. Rests on the spec's decisions
D16, D20 and D37. -/
def Obligations.FramingViolationsAbortInOrder : Prop :=
  ∀ (s : State) (t : List Bit) (cause : AbortCause),
    (cause = .len ∧ t.length ≠ 59) ∨ (cause = .mark0 ∧ t.length = 59 ∧ val t 0 = 1) ∨
      (cause = .mark20 ∧ t.length = 59 ∧ val t 0 = 0 ∧ val t 20 = 0) →
    exec (.decode t) s = .next { s with valid := false, ports := { quietPorts s with dec := some (.abort cause) } }

/-- R172 and R173: with good length and markers a decode commits all eight fields and sets `valid` when every group passes, and only clears `valid` when one
fails. Rests, for the failing case, on the spec's decision D17. -/
def Obligations.DecodeCommitsAllOrNothing : Prop :=
  ∀ (s : State) (t : List Bit), t.length = 59 → val t 0 = 0 → val t 20 = 1 → ∃ f ok1 ok2 ok3,
    exec (.decode t) s = .next
      { (if ok1 = true ∧ ok2 = true ∧ ok3 = true then { s with prev := s.cur, cur := committed f, valid := true } else { s with valid := false }) with
        ports := { quietPorts s with dec := some (.fields f ok1 ok2 ok3) } }

/-- R162 and R177: `DECODE` reads no bit of index 1 to 19: two telegrams that agree elsewhere have one outcome. Derived in the spec. -/
def Obligations.DecodeIgnoresTheFlagBits : Prop :=
  ∀ (s : State) (t t' : List Bit), t.length = t'.length → (∀ i, i = 0 ∨ 20 ≤ i → t.getD i .zero = t'.getD i .zero) →
    exec (.decode t) s = exec (.decode t') s

/-- A TELEGRAM word is the frame whose index `i` is bit `i`, and its meaning is the DECODE of that frame. The model's choice (log 10). -/
def Obligations.TelegramIsDecodedAsItsFrame : Prop :=
  ∀ (s : State) (w : FrameWord), ∃ (t : List Bit) (u : State), t.length = 59 ∧ (∀ i < 59, t.getD i .zero = .one ↔ w.getLsbD i = true) ∧
    exec (.telegram w) s = .next u ∧ exec (.decode t) s = .next u

/-- R65: the last telegram is immutable between completions: an operation leaves it as it is, or is the `EDGE.LO` that moves the whole buffer and the
59th bit to it (R128); what is moved has exactly 59 bits in every state that meets the invariants (R133 P-c). That `lt_valid` changes only
there is the spec's decision D15 (R24). -/
def Obligations.LastTelegramChangesOnlyAsAWhole : Prop :=
  ∀ (s t : State) (i : Instr), exec i s = .next t →
    (t.lt = s.lt ∧ t.ltValid = s.ltValid) ∨
    ∃ ts b, i = .edgeLo ts ∧ s.sync = .synchronized ∧ 58 ≤ s.tick ∧ t.lt = s.buf ++ [b] ∧ t.ltValid = true ∧ t.buf = [] ∧ t.tick = 0 ∧
      (s.Inv → t.lt.length = 59)

/-- R30 and R172: `valid`, `cur` and `prev` change only as stated: `valid` rises only with a fully successful decode, which is also the one write of `cur` and
`prev`; it falls only by a failed decode, `TIMEOUT` or `STOP`. Rests on the spec's decisions D13, D15, D17 and D37. -/
def Obligations.DecodedTimeChangesOnlyAsStated : Prop :=
  ∀ (s t : State) (i : Instr), exec i s = .next t →
    (t.cur = s.cur ∧ t.prev = s.prev ∧ t.valid = s.valid ∧ decodes s i = none ∧ i ≠ .timeout ∧ i ≠ .stop) ∨
    (t.cur = s.cur ∧ t.prev = s.prev ∧ t.valid = false ∧ (i = .timeout ∨ i = .stop)) ∨
    ∃ T u, decodes s i = some T ∧ exec (.decode T) s = .next u ∧ t.cur = u.cur ∧ t.prev = u.prev ∧ t.valid = u.valid ∧
      t.ports.dec = u.ports.dec ∧
      ((u.valid = true ∧ u.prev = s.cur ∧ ∃ f, u.ports.dec = some (.fields f true true true) ∧ u.cur = committed f) ∨
        (u.valid = false ∧ u.cur = s.cur ∧ u.prev = s.prev))

/-! The dispatcher. -/

/-- R190 to R193: the whole effect of `DISPATCH`: the latch takes the observed bit, `irq` pulses iff a callback is registered and a subscribed kind is met, and
nothing else changes. The announcement kind rests on the spec's decision D22. -/
def Obligations.DispatchReportsSubscribedChanges : Prop :=
  ∀ s : State, ∃ p, exec .dispatch s = .next
      { s with dstLatch := s.lt.getD s.cfg.dstAnnBit .zero, ports := { quietPorts s with irq := p } } ∧
    (p = true ↔ s.cbEn = true ∧
      ((s.subKinds.getLsbD 0 = true ∧ s.prev.minute ≠ s.cur.minute) ∨ (s.subKinds.getLsbD 1 = true ∧ s.prev.hour ≠ s.cur.hour) ∨
       (s.subKinds.getLsbD 2 = true ∧ s.prev.day ≠ s.cur.day) ∨ (s.subKinds.getLsbD 3 = true ∧ s.prev.month ≠ s.cur.month) ∨
       (s.subKinds.getLsbD 4 = true ∧ s.prev.year ≠ s.cur.year) ∨
       (s.subKinds.getLsbD 5 = true ∧ s.lt.getD s.cfg.dstAnnBit .zero = .one ∧ s.dstLatch = .zero)))

/-- R190, R191 and R193: the mask `m` of conditions met is a matter of the fields, the observed bit and the latch alone. Whatever the subscription, `irq`
pulses iff a callback is registered and `m AND sub_kinds` is not 0, and the latch takes the observed bit. Bit 5 of `m` and the latch moving
regardless of the subscription rest on the spec's decision D22 (R192 a). -/
def Obligations.SubscriptionFiltersTheConditions : Prop :=
  ∀ s : State, ∃ m : KindMask, let a := s.lt.getD s.cfg.dstAnnBit .zero
    (∀ (kinds : KindMask) (cb : Bool), let t := { s with subKinds := kinds, cbEn := cb }
      ∃ p, exec .dispatch t = .next { t with dstLatch := a, ports := { quietPorts s with irq := p } } ∧
        (p = true ↔ cb = true ∧ m &&& kinds ≠ 0) ∧ (kinds = 0 → p = false) ∧ (cb = false → p = false)) ∧
    (m.getLsbD 0 = true ↔ s.prev.minute ≠ s.cur.minute) ∧ (m.getLsbD 1 = true ↔ s.prev.hour ≠ s.cur.hour) ∧
    (m.getLsbD 2 = true ↔ s.prev.day ≠ s.cur.day) ∧ (m.getLsbD 3 = true ↔ s.prev.month ≠ s.cur.month) ∧
    (m.getLsbD 4 = true ↔ s.prev.year ≠ s.cur.year) ∧ (m.getLsbD 5 = true ↔ a = .one ∧ s.dstLatch = .zero)

/-- With no callback registered, or no kind subscribed, no operation at all pulses `irq` (R193, with the spec's decisions D14 and D21 for where dispatches
happen). -/
def Obligations.NoPulseWithoutSubscription : Prop :=
  ∀ (s t : State) (i : Instr), exec i s = .next t → s.cbEn = false ∨ s.subKinds = 0 → t.ports.irq = false

/-- R192 and R197: subscribed to the announcement alone, a dispatch that observes ONE after a dispatch that observed ONE gives no pulse, and one that observes
ONE after ZERO does. Rests on the spec's decision D22. -/
def Obligations.AnnouncementFiresOncePerRise : Prop :=
  ∀ (s u v : State), s.cbEn = true → s.subKinds = 0b100000 → exec .dispatch s = .next u →
    ∀ T : List Bit, T.getD s.cfg.dstAnnBit .zero = .one → exec .dispatch { u with lt := T } = .next v →
    (v.ports.irq = true ↔ s.lt.getD s.cfg.dstAnnBit .zero = .zero)

/-- R194 and R227: from outside, `irq` pulses only in an `EDGE.LO` that triggered a decode. Rests on the spec's decision D23. -/
def Obligations.PulsesComeOnlyFromDecodeTriggers : Prop :=
  ∀ (s t : State) (w : EventWord) (rest : List Input), s.pending = .word w :: rest → step s = .next t → t.ports.irq = true →
    ∃ ts, decode s.cfg (.event w) = .instr (.edgeLo ts) ∧ s.running = true ∧ s.ltValid = true ∧ t.tick = 1 ∧ t.sync = .synchronized ∧
      s.cbEn = true ∧ s.subKinds ≠ 0

/-! The host interface. -/

/-- R201: `START` enables the edges and arms the watchdog, and reinitializes nothing. Rests on the spec's decision D24. -/
def Obligations.StartEnablesAndArms : Prop :=
  ∀ s : State, exec .start s = .next
    { s with running := true, wdArmed := true, ports := { quietPorts s with wdArm := some (s.cfg.pauseHi.toNat + 1000) } }

/-- R202: `STOP` disables the edges, cancels the watchdog and clears `valid`, and leaves the rest. Rests on the spec's decision D24. -/
def Obligations.StopDisablesAndInvalidates : Prop :=
  ∀ s : State, exec .stop s = .next
    { s with running := false, wdArmed := false, valid := false, ports := { quietPorts s with wdCancel := true } }

/-- R203: `SUBSCRIBE` replaces the whole subscription at once and touches nothing else. Rests on the spec's decision D23. -/
def Obligations.SubscribeReplacesTheSubscription : Prop :=
  ∀ (s : State) (kinds : KindMask) (cb : Bool), exec (.subscribe kinds cb) s = .next { s with subKinds := kinds, cbEn := cb, ports := quietPorts s }

/-- R205: `GET_LAST_SIGNAL` returns the last telegram raw, or absence and 59 zeros. Rests on the spec's decision D27. -/
def Obligations.GetLastSignalReturnsTheFrame : Prop :=
  ∀ s : State, exec .getLastSignal s = .next
    { s with
      ports := { quietPorts s with
        rsp := some (if s.ltValid = true then .lastSignal true s.lt else .lastSignal false (List.replicate 59 .zero)) } }

/-- R206: `GET_DATETIME` returns `cur`, with the live tick as the second when asked. Rests on the spec's decision D36. -/
def Obligations.GetDatetimeReturnsTheCurrentTime : Prop :=
  ∀ (s : State) (ws : Bool), exec (.getDatetime ws) s = .next
    { s with
      ports := { quietPorts s with
        rsp := some (.datetime ⟨s.cur.year, s.cur.month, s.cur.day, s.cur.weekday, s.cur.hour, s.cur.minute,
          if ws = true then (s.tick : Int) else s.cur.second, s.cur.subsecond⟩) } }

/-- R207: `GET_STATUS` returns synchronized, valid, the last duration, the tick count and, when valid, the five raw flags of the last telegram. Rests on the
spec's decisions D26 and D29. -/
def Obligations.GetStatusReturnsTheRecord : Prop :=
  ∀ s : State,
    let flag := fun i : FlagIndex => if s.valid = true then s.lt.getD i .zero else Bit.zero
    exec .getStatus s = .next
      { s with
        ports := { quietPorts s with
          rsp := some (.status ⟨decide (s.sync = .synchronized), s.valid, s.lastDur, s.tick, s.valid, flag s.cfg.callBit, flag s.cfg.dstAnnBit,
            flag s.cfg.cestBit, flag s.cfg.cetBit, flag s.cfg.leapAnnBit⟩) } }

/-- R206 ("Idempotence"): two `GET_DATETIME` without seconds return identical records whatever operations run between them, as long as none of those
decodes a telegram in the state it runs in. Rests on the spec's decision D36. -/
def Obligations.DatetimeIsStableBetweenDecodes : Prop :=
  ∀ (s t u v : State) (is : List Instr), exec (.getDatetime false) s = .next t → RunsWithoutDecode t is u →
    exec (.getDatetime false) u = .next v → v.ports.rsp = t.ports.rsp

/-- R208: in the register form of `GET_LAST_SIGNAL` bit `i` is the telegram's index `i` and bit 59 is `present`. Rests on the spec's decision D26. -/
def Obligations.LastSignalRegisterHoldsTheFrame : Prop :=
  ∀ (c : Config) (present : Bool) (bits : List Bit), bits.length = 59 →
    (∀ i < 59, (packResponse c (.lastSignal present bits)).testBit i = decide (val bits i = 1)) ∧
    (packResponse c (.lastSignal present bits)).testBit 59 = present ∧ packResponse c (.lastSignal present bits) < 2 ^ 60

/-! The whole machine. -/

/-- R37: every step, of whatever input, keeps the invariants I-a to I-g and those stated with them in Safety.lean. Derived in the spec. -/
def Obligations.EveryStepKeepsTheInvariants : Prop :=
  ∀ s t : State, s.Inv → step s = .next t → t.Inv

/-- R37: the state after reset meets the invariants. The reset values are the spec's decision D25 and log 2. -/
def Obligations.ResetMeetsTheInvariants : Prop := State.reset.Inv

/-- R25 to R27 and R31 to R36: `running`, the armed bit, the subscription, the latch, the two timestamps with their validity bits and the last duration
are written by the operations the spec names and by no other, a timestamp with the time of the edge that records it; the configuration by
none. Rests on the spec's decisions D5, D6, D7, D10, D11, D13, D14, D22 and D23. -/
def Obligations.ControlStateHasTheStatedWriters : Prop :=
  ∀ (s t : State) (i : Instr), exec i s = .next t →
    t.cfg = s.cfg ∧ (t.running ≠ s.running → i = .start ∨ i = .stop) ∧
    (t.wdArmed ≠ s.wdArmed → i = .start ∨ i = .stop ∨ i = .timeout ∨ (s.running = true ∧ ∃ ts, i = .edgeHi ts ∨ i = .edgeLo ts)) ∧
    ((t.subKinds ≠ s.subKinds ∨ t.cbEn ≠ s.cbEn) → ∃ kinds cb, i = .subscribe kinds cb) ∧
    (t.dstLatch ≠ s.dstLatch → i = .dispatch ∨ (decodes s i = some s.lt ∧ ∃ ts, i = .edgeLo ts)) ∧
    ((t.tHi ≠ s.tHi ∨ t.tHiValid ≠ s.tHiValid) → s.running = true ∧ ∃ ts, i = .edgeHi ts ∧ t.tHi = ts ∧ t.tHiValid = true) ∧
    ((t.tLo ≠ s.tLo ∨ t.tLoValid ≠ s.tLoValid) → s.running = true ∧ ∃ ts, i = .edgeLo ts ∧ t.tLo = ts ∧ t.tLoValid = true) ∧
    (t.lastDur ≠ s.lastDur → s.running = true ∧ s.tHiValid = true ∧ ∃ ts, i = .edgeLo ts)

/-- R153: in a trace that is well-timed in real time, after a processed edge the next input comes no later than `WD_DELAY` and the timer's accuracy, unless
a `TIMEOUT`, a reset, or an input that re-arms or cancels, comes first. Rests on the spec's decisions D13 and D14; the accuracy and the
real time beside the machine are log 14. -/
def Obligations.SilenceAfterAnEdgeIsBounded : Prop :=
  ∀ (accuracy horizon : Nat) (tm : Timer) (s : State) (x y : TimedInput) (mid : List TimedInput) (w : EventWord) (i : Instr),
    s.running = true → x.input = .word w → decode s.cfg (.event w) = .instr i → (∃ ts, i = .edgeHi ts ∨ i = .edgeLo ts) →
    (∀ m ∈ mid, LeavesTimer s.cfg m.input) → wellTimedTrace accuracy tm (x :: (mid ++ [y])) horizon s = true →
    y.time ≤ x.time + (s.cfg.pauseHi.toNat + 1000) + accuracy

/-! Two more parts of the dispatcher and the decoder, of rules the spec marks as no decision of its own. -/

/-- R191: with a callback, and for every choice of the five field kinds, `DISPATCH` pulses iff one of the chosen fields differs between `prev` and `cur`, in
either direction; and the weekday, the second, the subsecond and `valid` bear on no pulse, whatever is subscribed. -/
def Obligations.FieldKindsCompareTheirFields : Prop :=
  (∀ (s : State) (kinds : KindMask), s.cbEn = true → kinds.getLsbD 5 = false →
    ∃ u, exec .dispatch { s with subKinds := kinds } = .next u ∧ (u.ports.irq = true ↔
      (kinds.getLsbD 0 = true ∧ s.prev.minute ≠ s.cur.minute) ∨ (kinds.getLsbD 1 = true ∧ s.prev.hour ≠ s.cur.hour) ∨
      (kinds.getLsbD 2 = true ∧ s.prev.day ≠ s.cur.day) ∨ (kinds.getLsbD 3 = true ∧ s.prev.month ≠ s.cur.month) ∨
      (kinds.getLsbD 4 = true ∧ s.prev.year ≠ s.cur.year))) ∧
  ∀ (s : State) (p c : DateTime) (b : Bool), SameFiveFields p s.prev → SameFiveFields c s.cur →
    ∃ u v, exec .dispatch s = .next u ∧ exec .dispatch { s with prev := p, cur := c, valid := b } = .next v ∧ v.ports.irq = u.ports.irq

/-- R164 and R165: in `FIELDS` of a telegram with good length and markers the minute and the hour are the weighted sums of their bits if their groups pass,
999 if not. -/
def Obligations.MinuteAndHourFollowTheirGroups : Prop :=
  ∀ t : List Bit, t.length = 59 → val t 0 = 0 → val t 20 = 1 → ∃ f ok1 ok2 ok3, fieldsOf t = .fields f ok1 ok2 ok3 ∧
    f.minute = (if (onesBetween t 21 27 + val t 28) % 2 = 0 then
      ((val t 21 + 2 * val t 22 + 4 * val t 23 + 8 * val t 24 + 10 * val t 25 + 20 * val t 26 + 40 * val t 27 : Nat) : Int) else 999) ∧
    f.hour = (if (onesBetween t 29 34 + val t 35) % 2 = 0 then
      ((val t 29 + 2 * val t 30 + 4 * val t 31 + 8 * val t 32 + 10 * val t 33 + 20 * val t 34 : Nat) : Int) else 999)

/-- R64: no status flag is read from a marker or a field. Two last telegrams that agree at the indices 1 to 19 show the same flags on `GET_STATUS`, and
`DISPATCH` gives the same pulse and the same latch on them. That the flags are parameters is the spec's decision D29, the latch D22. -/
def Obligations.FlagsAreReadBetweenTheMarkers : Prop :=
  ∀ (s : State) (t : List Bit), (∀ i, 1 ≤ i → i ≤ 19 → t.getD i .zero = s.lt.getD i .zero) →
    (∃ u v, exec .getStatus s = .next u ∧ exec .getStatus { s with lt := t } = .next v ∧ v.ports.rsp = u.ports.rsp) ∧
    ∃ u v, exec .dispatch s = .next u ∧ exec .dispatch { s with lt := t } = .next v ∧ v.ports.irq = u.ports.irq ∧ v.dstLatch = u.dstLatch
end

