-- ==== Sys2Proof/Laws/Encoding.lean ====
section
/-! SUPPORT. The fields of an encoded event word, and what decoding answers once they are known. -/

namespace Sys2Proof

/-- The bits of an event word (R96). -/
theorem getLsbD_eventWord (op a : BitVec 4) (p : BitVec 32) (i : Nat) :
    (eventWord op a p).getLsbD i = if i < 32 then p.getLsbD i else if i < 36 then a.getLsbD (i - 32) else op.getLsbD (i - 36) := by
  have h : (eventWord op a p).getLsbD i = ((op ++ a) ++ p : BitVec (4 + 4 + 32)).getLsbD i := rfl
  rw [h, BitVec.getLsbD_append, BitVec.getLsbD_append]
  split
  · rfl
  · by_cases h2 : i < 36
    · rw [if_pos (by omega), if_pos h2]
    · rw [if_neg (by omega), if_neg h2]; congr 1

@[simp] theorem opField_eventWord (op a : BitVec 4) (p : BitVec 32) : opField (eventWord op a p) = op := by
  apply BitVec.eq_of_getLsbD_eq
  intro i hi
  simp only [opField, BitVec.getLsbD_extractLsb', getLsbD_eventWord, hi, decide_true, Bool.true_and]
  rw [if_neg (by omega), if_neg (by omega)]; congr 1; omega

@[simp] theorem argField_eventWord (op a : BitVec 4) (p : BitVec 32) : argField (eventWord op a p) = a := by
  apply BitVec.eq_of_getLsbD_eq
  intro i hi
  simp only [argField, BitVec.getLsbD_extractLsb', getLsbD_eventWord, hi, decide_true, Bool.true_and]
  rw [if_neg (by omega), if_pos (by omega)]; congr 1; omega

@[simp] theorem payload_eventWord (op a : BitVec 4) (p : BitVec 32) : payload (eventWord op a p) = p := by
  apply BitVec.eq_of_getLsbD_eq
  intro i hi
  simp only [payload, BitVec.getLsbD_extractLsb', getLsbD_eventWord, hi, decide_true, Bool.true_and]
  rw [if_pos (by omega)]; congr 1; omega

/-- A word is its three fields (R96). -/
theorem eventWord_fields (w : EventWord) : eventWord (opField w) (argField w) (payload w) = w := by
  apply BitVec.eq_of_getLsbD_eq
  intro i hi
  simp only [getLsbD_eventWord, opField, argField, payload, BitVec.getLsbD_extractLsb']
  split
  · simp [*]
  · split
    · have h4 : i - 32 < 4 := by omega
      simp only [h4, decide_true, Bool.true_and]; congr 1; omega
    · have h4 : i - 36 < 4 := by omega
      simp only [h4, decide_true, Bool.true_and]; congr 1; omega

theorem decodeBare_instr {i j : Instr} {a : BitVec 4} {p : BitVec 32} (h : decodeBare i a p = .instr j) : a = 0 ∧ p = 0 ∧ j = i := by
  unfold decodeBare at h
  split at h
  · cases h
  · split at h
    · cases h
    · cases h; simp_all

theorem decodeEdge_instr {c : Config} {j : Instr} {a : BitVec 4} {p : BitVec 32} (h : decodeEdge c a p = .instr j) :
    fitsTimestamp c p = true ∧ ((a = 1 ∧ j = .edgeHi p) ∨ (a = 0 ∧ j = .edgeLo p)) := by
  unfold decodeEdge at h
  split at h
  · cases h
  · split at h
    · cases h
    · split at h <;> cases h <;> simp_all

theorem decodeSubscribe_instr {j : Instr} {a : BitVec 4} {p : BitVec 32} (h : decodeSubscribe a p = .instr j) :
    a = 0 ∧ p.extractLsb' 7 25 = 0 ∧ j = .subscribe (p.extractLsb' 0 6) (p.getLsbD 6) := by
  unfold decodeSubscribe at h
  split at h
  · cases h
  · split at h
    · cases h
    · cases h; simp_all

theorem decodeGetDatetime_instr {j : Instr} {a : BitVec 4} {p : BitVec 32} (h : decodeGetDatetime a p = .instr j) :
    a = 0 ∧ p.extractLsb' 1 31 = 0 ∧ j = .getDatetime (p.getLsbD 0) := by
  unfold decodeGetDatetime at h
  split at h
  · cases h
  · split at h
    · cases h
    · cases h; simp_all

/-- Everything an event word can decode to, with its fields (R97). -/
theorem decodeEvent_instr {c : Config} {w : EventWord} {j : Instr} (h : decodeEvent c w = .instr j) :
    (opField w = 1 ∧ fitsTimestamp c (payload w) = true ∧
      ((argField w = 1 ∧ j = .edgeHi (payload w)) ∨ (argField w = 0 ∧ j = .edgeLo (payload w)))) ∨
    (argField w = 0 ∧ payload w = 0 ∧
      ((opField w = 2 ∧ j = .timeout) ∨ (opField w = 3 ∧ j = .start) ∨ (opField w = 4 ∧ j = .stop) ∨
       (opField w = 6 ∧ j = .getLastSignal) ∨ (opField w = 8 ∧ j = .getStatus))) ∨
    (opField w = 5 ∧ argField w = 0 ∧ (payload w).extractLsb' 7 25 = 0 ∧
      j = .subscribe ((payload w).extractLsb' 0 6) ((payload w).getLsbD 6)) ∨
    (opField w = 7 ∧ argField w = 0 ∧ (payload w).extractLsb' 1 31 = 0 ∧ j = .getDatetime ((payload w).getLsbD 0)) := by
  unfold decodeEvent at h
  have hop : ∀ n : Nat, n < 16 → (opField w).toNat = n → opField w = BitVec.ofNat 4 n := by
    intro n hn e
    apply BitVec.eq_of_toNat_eq
    simp [e, Nat.mod_eq_of_lt hn]
  split at h
  next e =>
    obtain ⟨h1, h2⟩ := decodeEdge_instr h
    exact .inl ⟨hop 1 (by omega) e, h1, h2⟩
  next e =>
    obtain ⟨h1, h2, h3⟩ := decodeBare_instr h
    exact .inr (.inl ⟨h1, h2, .inl ⟨hop 2 (by omega) e, h3⟩⟩)
  next e =>
    obtain ⟨h1, h2, h3⟩ := decodeBare_instr h
    exact .inr (.inl ⟨h1, h2, .inr (.inl ⟨hop 3 (by omega) e, h3⟩)⟩)
  next e =>
    obtain ⟨h1, h2, h3⟩ := decodeBare_instr h
    exact .inr (.inl ⟨h1, h2, .inr (.inr (.inl ⟨hop 4 (by omega) e, h3⟩))⟩)
  next e =>
    obtain ⟨h1, h2, h3⟩ := decodeSubscribe_instr h
    exact .inr (.inr (.inl ⟨hop 5 (by omega) e, h1, h2, h3⟩))
  next e =>
    obtain ⟨h1, h2, h3⟩ := decodeBare_instr h
    exact .inr (.inl ⟨h1, h2, .inr (.inr (.inr (.inl ⟨hop 6 (by omega) e, h3⟩)))⟩)
  next e =>
    obtain ⟨h1, h2, h3⟩ := decodeGetDatetime_instr h
    exact .inr (.inr (.inr ⟨hop 7 (by omega) e, h1, h2, h3⟩))
  next e =>
    obtain ⟨h1, h2, h3⟩ := decodeBare_instr h
    exact .inr (.inl ⟨h1, h2, .inr (.inr (.inr (.inr ⟨hop 8 (by omega) e, h3⟩)))⟩)
  next => cases h

end Sys2Proof
end

