-- ==== Sys2Proof/Laws/State.lean ====
section
/-! SUPPORT. What each named write of Ops.lean leaves in each field of the state: one lemma per field per update, true by definition. -/

namespace Sys2Proof.Machine

variable (s : State)

@[simp] theorem State.beginOp_sync : s.beginOp.sync = s.sync := rfl
@[simp] theorem State.beginOp_tick : s.beginOp.tick = s.tick := rfl
@[simp] theorem State.beginOp_buf : s.beginOp.buf = s.buf := rfl
@[simp] theorem State.beginOp_lt : s.beginOp.lt = s.lt := rfl
@[simp] theorem State.beginOp_ltValid : s.beginOp.ltValid = s.ltValid := rfl
@[simp] theorem State.beginOp_tHi : s.beginOp.tHi = s.tHi := rfl
@[simp] theorem State.beginOp_tHiValid : s.beginOp.tHiValid = s.tHiValid := rfl
@[simp] theorem State.beginOp_tLo : s.beginOp.tLo = s.tLo := rfl
@[simp] theorem State.beginOp_tLoValid : s.beginOp.tLoValid = s.tLoValid := rfl
@[simp] theorem State.beginOp_lastDur : s.beginOp.lastDur = s.lastDur := rfl
@[simp] theorem State.beginOp_cur : s.beginOp.cur = s.cur := rfl
@[simp] theorem State.beginOp_prev : s.beginOp.prev = s.prev := rfl
@[simp] theorem State.beginOp_valid : s.beginOp.valid = s.valid := rfl
@[simp] theorem State.beginOp_subKinds : s.beginOp.subKinds = s.subKinds := rfl
@[simp] theorem State.beginOp_cbEn : s.beginOp.cbEn = s.cbEn := rfl
@[simp] theorem State.beginOp_dstLatch : s.beginOp.dstLatch = s.dstLatch := rfl
@[simp] theorem State.beginOp_running : s.beginOp.running = s.running := rfl
@[simp] theorem State.beginOp_wdArmed : s.beginOp.wdArmed = s.wdArmed := rfl
@[simp] theorem State.beginOp_cfg : s.beginOp.cfg = s.cfg := rfl
@[simp] theorem State.beginOp_ports : s.beginOp.ports = s.ports.idle := rfl
@[simp] theorem State.beginOp_pending : s.beginOp.pending = s.pending := rfl

@[simp] theorem State.respond_sync (r : Response) : (s.respond r).sync = s.sync := rfl
@[simp] theorem State.respond_tick (r : Response) : (s.respond r).tick = s.tick := rfl
@[simp] theorem State.respond_buf (r : Response) : (s.respond r).buf = s.buf := rfl
@[simp] theorem State.respond_lt (r : Response) : (s.respond r).lt = s.lt := rfl
@[simp] theorem State.respond_ltValid (r : Response) : (s.respond r).ltValid = s.ltValid := rfl
@[simp] theorem State.respond_tHi (r : Response) : (s.respond r).tHi = s.tHi := rfl
@[simp] theorem State.respond_tHiValid (r : Response) : (s.respond r).tHiValid = s.tHiValid := rfl
@[simp] theorem State.respond_tLo (r : Response) : (s.respond r).tLo = s.tLo := rfl
@[simp] theorem State.respond_tLoValid (r : Response) : (s.respond r).tLoValid = s.tLoValid := rfl
@[simp] theorem State.respond_lastDur (r : Response) : (s.respond r).lastDur = s.lastDur := rfl
@[simp] theorem State.respond_cur (r : Response) : (s.respond r).cur = s.cur := rfl
@[simp] theorem State.respond_prev (r : Response) : (s.respond r).prev = s.prev := rfl
@[simp] theorem State.respond_valid (r : Response) : (s.respond r).valid = s.valid := rfl
@[simp] theorem State.respond_subKinds (r : Response) : (s.respond r).subKinds = s.subKinds := rfl
@[simp] theorem State.respond_cbEn (r : Response) : (s.respond r).cbEn = s.cbEn := rfl
@[simp] theorem State.respond_dstLatch (r : Response) : (s.respond r).dstLatch = s.dstLatch := rfl
@[simp] theorem State.respond_running (r : Response) : (s.respond r).running = s.running := rfl
@[simp] theorem State.respond_wdArmed (r : Response) : (s.respond r).wdArmed = s.wdArmed := rfl
@[simp] theorem State.respond_cfg (r : Response) : (s.respond r).cfg = s.cfg := rfl
@[simp] theorem State.respond_ports (r : Response) : (s.respond r).ports = { s.ports with rsp := some r } := rfl
@[simp] theorem State.respond_pending (r : Response) : (s.respond r).pending = s.pending := rfl

@[simp] theorem State.reportClass_sync (k : PulseClass) : (s.reportClass k).sync = s.sync := rfl
@[simp] theorem State.reportClass_tick (k : PulseClass) : (s.reportClass k).tick = s.tick := rfl
@[simp] theorem State.reportClass_buf (k : PulseClass) : (s.reportClass k).buf = s.buf := rfl
@[simp] theorem State.reportClass_lt (k : PulseClass) : (s.reportClass k).lt = s.lt := rfl
@[simp] theorem State.reportClass_ltValid (k : PulseClass) : (s.reportClass k).ltValid = s.ltValid := rfl
@[simp] theorem State.reportClass_tHi (k : PulseClass) : (s.reportClass k).tHi = s.tHi := rfl
@[simp] theorem State.reportClass_tHiValid (k : PulseClass) : (s.reportClass k).tHiValid = s.tHiValid := rfl
@[simp] theorem State.reportClass_tLo (k : PulseClass) : (s.reportClass k).tLo = s.tLo := rfl
@[simp] theorem State.reportClass_tLoValid (k : PulseClass) : (s.reportClass k).tLoValid = s.tLoValid := rfl
@[simp] theorem State.reportClass_lastDur (k : PulseClass) : (s.reportClass k).lastDur = s.lastDur := rfl
@[simp] theorem State.reportClass_cur (k : PulseClass) : (s.reportClass k).cur = s.cur := rfl
@[simp] theorem State.reportClass_prev (k : PulseClass) : (s.reportClass k).prev = s.prev := rfl
@[simp] theorem State.reportClass_valid (k : PulseClass) : (s.reportClass k).valid = s.valid := rfl
@[simp] theorem State.reportClass_subKinds (k : PulseClass) : (s.reportClass k).subKinds = s.subKinds := rfl
@[simp] theorem State.reportClass_cbEn (k : PulseClass) : (s.reportClass k).cbEn = s.cbEn := rfl
@[simp] theorem State.reportClass_dstLatch (k : PulseClass) : (s.reportClass k).dstLatch = s.dstLatch := rfl
@[simp] theorem State.reportClass_running (k : PulseClass) : (s.reportClass k).running = s.running := rfl
@[simp] theorem State.reportClass_wdArmed (k : PulseClass) : (s.reportClass k).wdArmed = s.wdArmed := rfl
@[simp] theorem State.reportClass_cfg (k : PulseClass) : (s.reportClass k).cfg = s.cfg := rfl
@[simp] theorem State.reportClass_ports (k : PulseClass) : (s.reportClass k).ports = { s.ports with cls := some k } := rfl
@[simp] theorem State.reportClass_pending (k : PulseClass) : (s.reportClass k).pending = s.pending := rfl

@[simp] theorem State.reportDec_sync (r : DecodeResult) : (s.reportDec r).sync = s.sync := rfl
@[simp] theorem State.reportDec_tick (r : DecodeResult) : (s.reportDec r).tick = s.tick := rfl
@[simp] theorem State.reportDec_buf (r : DecodeResult) : (s.reportDec r).buf = s.buf := rfl
@[simp] theorem State.reportDec_lt (r : DecodeResult) : (s.reportDec r).lt = s.lt := rfl
@[simp] theorem State.reportDec_ltValid (r : DecodeResult) : (s.reportDec r).ltValid = s.ltValid := rfl
@[simp] theorem State.reportDec_tHi (r : DecodeResult) : (s.reportDec r).tHi = s.tHi := rfl
@[simp] theorem State.reportDec_tHiValid (r : DecodeResult) : (s.reportDec r).tHiValid = s.tHiValid := rfl
@[simp] theorem State.reportDec_tLo (r : DecodeResult) : (s.reportDec r).tLo = s.tLo := rfl
@[simp] theorem State.reportDec_tLoValid (r : DecodeResult) : (s.reportDec r).tLoValid = s.tLoValid := rfl
@[simp] theorem State.reportDec_lastDur (r : DecodeResult) : (s.reportDec r).lastDur = s.lastDur := rfl
@[simp] theorem State.reportDec_cur (r : DecodeResult) : (s.reportDec r).cur = s.cur := rfl
@[simp] theorem State.reportDec_prev (r : DecodeResult) : (s.reportDec r).prev = s.prev := rfl
@[simp] theorem State.reportDec_valid (r : DecodeResult) : (s.reportDec r).valid = s.valid := rfl
@[simp] theorem State.reportDec_subKinds (r : DecodeResult) : (s.reportDec r).subKinds = s.subKinds := rfl
@[simp] theorem State.reportDec_cbEn (r : DecodeResult) : (s.reportDec r).cbEn = s.cbEn := rfl
@[simp] theorem State.reportDec_dstLatch (r : DecodeResult) : (s.reportDec r).dstLatch = s.dstLatch := rfl
@[simp] theorem State.reportDec_running (r : DecodeResult) : (s.reportDec r).running = s.running := rfl
@[simp] theorem State.reportDec_wdArmed (r : DecodeResult) : (s.reportDec r).wdArmed = s.wdArmed := rfl
@[simp] theorem State.reportDec_cfg (r : DecodeResult) : (s.reportDec r).cfg = s.cfg := rfl
@[simp] theorem State.reportDec_ports (r : DecodeResult) : (s.reportDec r).ports = { s.ports with dec := some r } := rfl
@[simp] theorem State.reportDec_pending (r : DecodeResult) : (s.reportDec r).pending = s.pending := rfl

@[simp] theorem State.strobeIrq_sync (b : Bool) : (s.strobeIrq b).sync = s.sync := rfl
@[simp] theorem State.strobeIrq_tick (b : Bool) : (s.strobeIrq b).tick = s.tick := rfl
@[simp] theorem State.strobeIrq_buf (b : Bool) : (s.strobeIrq b).buf = s.buf := rfl
@[simp] theorem State.strobeIrq_lt (b : Bool) : (s.strobeIrq b).lt = s.lt := rfl
@[simp] theorem State.strobeIrq_ltValid (b : Bool) : (s.strobeIrq b).ltValid = s.ltValid := rfl
@[simp] theorem State.strobeIrq_tHi (b : Bool) : (s.strobeIrq b).tHi = s.tHi := rfl
@[simp] theorem State.strobeIrq_tHiValid (b : Bool) : (s.strobeIrq b).tHiValid = s.tHiValid := rfl
@[simp] theorem State.strobeIrq_tLo (b : Bool) : (s.strobeIrq b).tLo = s.tLo := rfl
@[simp] theorem State.strobeIrq_tLoValid (b : Bool) : (s.strobeIrq b).tLoValid = s.tLoValid := rfl
@[simp] theorem State.strobeIrq_lastDur (b : Bool) : (s.strobeIrq b).lastDur = s.lastDur := rfl
@[simp] theorem State.strobeIrq_cur (b : Bool) : (s.strobeIrq b).cur = s.cur := rfl
@[simp] theorem State.strobeIrq_prev (b : Bool) : (s.strobeIrq b).prev = s.prev := rfl
@[simp] theorem State.strobeIrq_valid (b : Bool) : (s.strobeIrq b).valid = s.valid := rfl
@[simp] theorem State.strobeIrq_subKinds (b : Bool) : (s.strobeIrq b).subKinds = s.subKinds := rfl
@[simp] theorem State.strobeIrq_cbEn (b : Bool) : (s.strobeIrq b).cbEn = s.cbEn := rfl
@[simp] theorem State.strobeIrq_dstLatch (b : Bool) : (s.strobeIrq b).dstLatch = s.dstLatch := rfl
@[simp] theorem State.strobeIrq_running (b : Bool) : (s.strobeIrq b).running = s.running := rfl
@[simp] theorem State.strobeIrq_wdArmed (b : Bool) : (s.strobeIrq b).wdArmed = s.wdArmed := rfl
@[simp] theorem State.strobeIrq_cfg (b : Bool) : (s.strobeIrq b).cfg = s.cfg := rfl
@[simp] theorem State.strobeIrq_ports (b : Bool) : (s.strobeIrq b).ports = { s.ports with irq := b } := rfl
@[simp] theorem State.strobeIrq_pending (b : Bool) : (s.strobeIrq b).pending = s.pending := rfl

@[simp] theorem State.synchronize_sync : s.synchronize.sync = .synchronized := rfl
@[simp] theorem State.synchronize_tick : s.synchronize.tick = 0 := rfl
@[simp] theorem State.synchronize_buf : s.synchronize.buf = [] := rfl
@[simp] theorem State.synchronize_lt : s.synchronize.lt = s.lt := rfl
@[simp] theorem State.synchronize_ltValid : s.synchronize.ltValid = s.ltValid := rfl
@[simp] theorem State.synchronize_tHi : s.synchronize.tHi = s.tHi := rfl
@[simp] theorem State.synchronize_tHiValid : s.synchronize.tHiValid = s.tHiValid := rfl
@[simp] theorem State.synchronize_tLo : s.synchronize.tLo = s.tLo := rfl
@[simp] theorem State.synchronize_tLoValid : s.synchronize.tLoValid = s.tLoValid := rfl
@[simp] theorem State.synchronize_lastDur : s.synchronize.lastDur = s.lastDur := rfl
@[simp] theorem State.synchronize_cur : s.synchronize.cur = s.cur := rfl
@[simp] theorem State.synchronize_prev : s.synchronize.prev = s.prev := rfl
@[simp] theorem State.synchronize_valid : s.synchronize.valid = s.valid := rfl
@[simp] theorem State.synchronize_subKinds : s.synchronize.subKinds = s.subKinds := rfl
@[simp] theorem State.synchronize_cbEn : s.synchronize.cbEn = s.cbEn := rfl
@[simp] theorem State.synchronize_dstLatch : s.synchronize.dstLatch = s.dstLatch := rfl
@[simp] theorem State.synchronize_running : s.synchronize.running = s.running := rfl
@[simp] theorem State.synchronize_wdArmed : s.synchronize.wdArmed = s.wdArmed := rfl
@[simp] theorem State.synchronize_cfg : s.synchronize.cfg = s.cfg := rfl
@[simp] theorem State.synchronize_ports : s.synchronize.ports = s.ports := rfl
@[simp] theorem State.synchronize_pending : s.synchronize.pending = s.pending := rfl

@[simp] theorem State.recordHi_sync (ts : Timestamp) : (s.recordHi ts).sync = s.sync := rfl
@[simp] theorem State.recordHi_tick (ts : Timestamp) : (s.recordHi ts).tick = s.tick := rfl
@[simp] theorem State.recordHi_buf (ts : Timestamp) : (s.recordHi ts).buf = s.buf := rfl
@[simp] theorem State.recordHi_lt (ts : Timestamp) : (s.recordHi ts).lt = s.lt := rfl
@[simp] theorem State.recordHi_ltValid (ts : Timestamp) : (s.recordHi ts).ltValid = s.ltValid := rfl
@[simp] theorem State.recordHi_tHi (ts : Timestamp) : (s.recordHi ts).tHi = ts := rfl
@[simp] theorem State.recordHi_tHiValid (ts : Timestamp) : (s.recordHi ts).tHiValid = true := rfl
@[simp] theorem State.recordHi_tLo (ts : Timestamp) : (s.recordHi ts).tLo = s.tLo := rfl
@[simp] theorem State.recordHi_tLoValid (ts : Timestamp) : (s.recordHi ts).tLoValid = s.tLoValid := rfl
@[simp] theorem State.recordHi_lastDur (ts : Timestamp) : (s.recordHi ts).lastDur = s.lastDur := rfl
@[simp] theorem State.recordHi_cur (ts : Timestamp) : (s.recordHi ts).cur = s.cur := rfl
@[simp] theorem State.recordHi_prev (ts : Timestamp) : (s.recordHi ts).prev = s.prev := rfl
@[simp] theorem State.recordHi_valid (ts : Timestamp) : (s.recordHi ts).valid = s.valid := rfl
@[simp] theorem State.recordHi_subKinds (ts : Timestamp) : (s.recordHi ts).subKinds = s.subKinds := rfl
@[simp] theorem State.recordHi_cbEn (ts : Timestamp) : (s.recordHi ts).cbEn = s.cbEn := rfl
@[simp] theorem State.recordHi_dstLatch (ts : Timestamp) : (s.recordHi ts).dstLatch = s.dstLatch := rfl
@[simp] theorem State.recordHi_running (ts : Timestamp) : (s.recordHi ts).running = s.running := rfl
@[simp] theorem State.recordHi_wdArmed (ts : Timestamp) : (s.recordHi ts).wdArmed = s.wdArmed := rfl
@[simp] theorem State.recordHi_cfg (ts : Timestamp) : (s.recordHi ts).cfg = s.cfg := rfl
@[simp] theorem State.recordHi_ports (ts : Timestamp) : (s.recordHi ts).ports = s.ports := rfl
@[simp] theorem State.recordHi_pending (ts : Timestamp) : (s.recordHi ts).pending = s.pending := rfl

@[simp] theorem State.recordLo_sync (ts : Timestamp) : (s.recordLo ts).sync = s.sync := rfl
@[simp] theorem State.recordLo_tick (ts : Timestamp) : (s.recordLo ts).tick = s.tick := rfl
@[simp] theorem State.recordLo_buf (ts : Timestamp) : (s.recordLo ts).buf = s.buf := rfl
@[simp] theorem State.recordLo_lt (ts : Timestamp) : (s.recordLo ts).lt = s.lt := rfl
@[simp] theorem State.recordLo_ltValid (ts : Timestamp) : (s.recordLo ts).ltValid = s.ltValid := rfl
@[simp] theorem State.recordLo_tHi (ts : Timestamp) : (s.recordLo ts).tHi = s.tHi := rfl
@[simp] theorem State.recordLo_tHiValid (ts : Timestamp) : (s.recordLo ts).tHiValid = s.tHiValid := rfl
@[simp] theorem State.recordLo_tLo (ts : Timestamp) : (s.recordLo ts).tLo = ts := rfl
@[simp] theorem State.recordLo_tLoValid (ts : Timestamp) : (s.recordLo ts).tLoValid = true := rfl
@[simp] theorem State.recordLo_lastDur (ts : Timestamp) : (s.recordLo ts).lastDur = s.lastDur := rfl
@[simp] theorem State.recordLo_cur (ts : Timestamp) : (s.recordLo ts).cur = s.cur := rfl
@[simp] theorem State.recordLo_prev (ts : Timestamp) : (s.recordLo ts).prev = s.prev := rfl
@[simp] theorem State.recordLo_valid (ts : Timestamp) : (s.recordLo ts).valid = s.valid := rfl
@[simp] theorem State.recordLo_subKinds (ts : Timestamp) : (s.recordLo ts).subKinds = s.subKinds := rfl
@[simp] theorem State.recordLo_cbEn (ts : Timestamp) : (s.recordLo ts).cbEn = s.cbEn := rfl
@[simp] theorem State.recordLo_dstLatch (ts : Timestamp) : (s.recordLo ts).dstLatch = s.dstLatch := rfl
@[simp] theorem State.recordLo_running (ts : Timestamp) : (s.recordLo ts).running = s.running := rfl
@[simp] theorem State.recordLo_wdArmed (ts : Timestamp) : (s.recordLo ts).wdArmed = s.wdArmed := rfl
@[simp] theorem State.recordLo_cfg (ts : Timestamp) : (s.recordLo ts).cfg = s.cfg := rfl
@[simp] theorem State.recordLo_ports (ts : Timestamp) : (s.recordLo ts).ports = s.ports := rfl
@[simp] theorem State.recordLo_pending (ts : Timestamp) : (s.recordLo ts).pending = s.pending := rfl

@[simp] theorem State.recordDuration_sync (d : Duration) : (s.recordDuration d).sync = s.sync := rfl
@[simp] theorem State.recordDuration_tick (d : Duration) : (s.recordDuration d).tick = s.tick := rfl
@[simp] theorem State.recordDuration_buf (d : Duration) : (s.recordDuration d).buf = s.buf := rfl
@[simp] theorem State.recordDuration_lt (d : Duration) : (s.recordDuration d).lt = s.lt := rfl
@[simp] theorem State.recordDuration_ltValid (d : Duration) : (s.recordDuration d).ltValid = s.ltValid := rfl
@[simp] theorem State.recordDuration_tHi (d : Duration) : (s.recordDuration d).tHi = s.tHi := rfl
@[simp] theorem State.recordDuration_tHiValid (d : Duration) : (s.recordDuration d).tHiValid = s.tHiValid := rfl
@[simp] theorem State.recordDuration_tLo (d : Duration) : (s.recordDuration d).tLo = s.tLo := rfl
@[simp] theorem State.recordDuration_tLoValid (d : Duration) : (s.recordDuration d).tLoValid = s.tLoValid := rfl
@[simp] theorem State.recordDuration_lastDur (d : Duration) : (s.recordDuration d).lastDur = d := rfl
@[simp] theorem State.recordDuration_cur (d : Duration) : (s.recordDuration d).cur = s.cur := rfl
@[simp] theorem State.recordDuration_prev (d : Duration) : (s.recordDuration d).prev = s.prev := rfl
@[simp] theorem State.recordDuration_valid (d : Duration) : (s.recordDuration d).valid = s.valid := rfl
@[simp] theorem State.recordDuration_subKinds (d : Duration) : (s.recordDuration d).subKinds = s.subKinds := rfl
@[simp] theorem State.recordDuration_cbEn (d : Duration) : (s.recordDuration d).cbEn = s.cbEn := rfl
@[simp] theorem State.recordDuration_dstLatch (d : Duration) : (s.recordDuration d).dstLatch = s.dstLatch := rfl
@[simp] theorem State.recordDuration_running (d : Duration) : (s.recordDuration d).running = s.running := rfl
@[simp] theorem State.recordDuration_wdArmed (d : Duration) : (s.recordDuration d).wdArmed = s.wdArmed := rfl
@[simp] theorem State.recordDuration_cfg (d : Duration) : (s.recordDuration d).cfg = s.cfg := rfl
@[simp] theorem State.recordDuration_ports (d : Duration) : (s.recordDuration d).ports = s.ports := rfl
@[simp] theorem State.recordDuration_pending (d : Duration) : (s.recordDuration d).pending = s.pending := rfl

@[simp] theorem State.resync_sync : s.resync.sync = .searching := rfl
@[simp] theorem State.resync_tick : s.resync.tick = 0 := rfl
@[simp] theorem State.resync_buf : s.resync.buf = [] := rfl
@[simp] theorem State.resync_lt : s.resync.lt = s.lt := rfl
@[simp] theorem State.resync_ltValid : s.resync.ltValid = s.ltValid := rfl
@[simp] theorem State.resync_tHi : s.resync.tHi = s.tHi := rfl
@[simp] theorem State.resync_tHiValid : s.resync.tHiValid = s.tHiValid := rfl
@[simp] theorem State.resync_tLo : s.resync.tLo = s.tLo := rfl
@[simp] theorem State.resync_tLoValid : s.resync.tLoValid = s.tLoValid := rfl
@[simp] theorem State.resync_lastDur : s.resync.lastDur = s.lastDur := rfl
@[simp] theorem State.resync_cur : s.resync.cur = s.cur := rfl
@[simp] theorem State.resync_prev : s.resync.prev = s.prev := rfl
@[simp] theorem State.resync_valid : s.resync.valid = s.valid := rfl
@[simp] theorem State.resync_subKinds : s.resync.subKinds = s.subKinds := rfl
@[simp] theorem State.resync_cbEn : s.resync.cbEn = s.cbEn := rfl
@[simp] theorem State.resync_dstLatch : s.resync.dstLatch = s.dstLatch := rfl
@[simp] theorem State.resync_running : s.resync.running = s.running := rfl
@[simp] theorem State.resync_wdArmed : s.resync.wdArmed = s.wdArmed := rfl
@[simp] theorem State.resync_cfg : s.resync.cfg = s.cfg := rfl
@[simp] theorem State.resync_ports : s.resync.ports = s.ports := rfl
@[simp] theorem State.resync_pending : s.resync.pending = s.pending := rfl

@[simp] theorem State.append_sync (b : Bit) : (s.append b).sync = s.sync := rfl
@[simp] theorem State.append_tick (b : Bit) : (s.append b).tick = s.tick + 1 := rfl
@[simp] theorem State.append_buf (b : Bit) : (s.append b).buf = s.buf ++ [b] := rfl
@[simp] theorem State.append_lt (b : Bit) : (s.append b).lt = s.lt := rfl
@[simp] theorem State.append_ltValid (b : Bit) : (s.append b).ltValid = s.ltValid := rfl
@[simp] theorem State.append_tHi (b : Bit) : (s.append b).tHi = s.tHi := rfl
@[simp] theorem State.append_tHiValid (b : Bit) : (s.append b).tHiValid = s.tHiValid := rfl
@[simp] theorem State.append_tLo (b : Bit) : (s.append b).tLo = s.tLo := rfl
@[simp] theorem State.append_tLoValid (b : Bit) : (s.append b).tLoValid = s.tLoValid := rfl
@[simp] theorem State.append_lastDur (b : Bit) : (s.append b).lastDur = s.lastDur := rfl
@[simp] theorem State.append_cur (b : Bit) : (s.append b).cur = s.cur := rfl
@[simp] theorem State.append_prev (b : Bit) : (s.append b).prev = s.prev := rfl
@[simp] theorem State.append_valid (b : Bit) : (s.append b).valid = s.valid := rfl
@[simp] theorem State.append_subKinds (b : Bit) : (s.append b).subKinds = s.subKinds := rfl
@[simp] theorem State.append_cbEn (b : Bit) : (s.append b).cbEn = s.cbEn := rfl
@[simp] theorem State.append_dstLatch (b : Bit) : (s.append b).dstLatch = s.dstLatch := rfl
@[simp] theorem State.append_running (b : Bit) : (s.append b).running = s.running := rfl
@[simp] theorem State.append_wdArmed (b : Bit) : (s.append b).wdArmed = s.wdArmed := rfl
@[simp] theorem State.append_cfg (b : Bit) : (s.append b).cfg = s.cfg := rfl
@[simp] theorem State.append_ports (b : Bit) : (s.append b).ports = s.ports := rfl
@[simp] theorem State.append_pending (b : Bit) : (s.append b).pending = s.pending := rfl

@[simp] theorem State.complete_sync : s.complete.sync = s.sync := rfl
@[simp] theorem State.complete_tick : s.complete.tick = 0 := rfl
@[simp] theorem State.complete_buf : s.complete.buf = [] := rfl
@[simp] theorem State.complete_lt : s.complete.lt = s.buf := rfl
@[simp] theorem State.complete_ltValid : s.complete.ltValid = true := rfl
@[simp] theorem State.complete_tHi : s.complete.tHi = s.tHi := rfl
@[simp] theorem State.complete_tHiValid : s.complete.tHiValid = s.tHiValid := rfl
@[simp] theorem State.complete_tLo : s.complete.tLo = s.tLo := rfl
@[simp] theorem State.complete_tLoValid : s.complete.tLoValid = s.tLoValid := rfl
@[simp] theorem State.complete_lastDur : s.complete.lastDur = s.lastDur := rfl
@[simp] theorem State.complete_cur : s.complete.cur = s.cur := rfl
@[simp] theorem State.complete_prev : s.complete.prev = s.prev := rfl
@[simp] theorem State.complete_valid : s.complete.valid = s.valid := rfl
@[simp] theorem State.complete_subKinds : s.complete.subKinds = s.subKinds := rfl
@[simp] theorem State.complete_cbEn : s.complete.cbEn = s.cbEn := rfl
@[simp] theorem State.complete_dstLatch : s.complete.dstLatch = s.dstLatch := rfl
@[simp] theorem State.complete_running : s.complete.running = s.running := rfl
@[simp] theorem State.complete_wdArmed : s.complete.wdArmed = s.wdArmed := rfl
@[simp] theorem State.complete_cfg : s.complete.cfg = s.cfg := rfl
@[simp] theorem State.complete_ports : s.complete.ports = s.ports := rfl
@[simp] theorem State.complete_pending : s.complete.pending = s.pending := rfl

@[simp] theorem State.invalidate_sync : s.invalidate.sync = s.sync := rfl
@[simp] theorem State.invalidate_tick : s.invalidate.tick = s.tick := rfl
@[simp] theorem State.invalidate_buf : s.invalidate.buf = s.buf := rfl
@[simp] theorem State.invalidate_lt : s.invalidate.lt = s.lt := rfl
@[simp] theorem State.invalidate_ltValid : s.invalidate.ltValid = s.ltValid := rfl
@[simp] theorem State.invalidate_tHi : s.invalidate.tHi = s.tHi := rfl
@[simp] theorem State.invalidate_tHiValid : s.invalidate.tHiValid = s.tHiValid := rfl
@[simp] theorem State.invalidate_tLo : s.invalidate.tLo = s.tLo := rfl
@[simp] theorem State.invalidate_tLoValid : s.invalidate.tLoValid = s.tLoValid := rfl
@[simp] theorem State.invalidate_lastDur : s.invalidate.lastDur = s.lastDur := rfl
@[simp] theorem State.invalidate_cur : s.invalidate.cur = s.cur := rfl
@[simp] theorem State.invalidate_prev : s.invalidate.prev = s.prev := rfl
@[simp] theorem State.invalidate_valid : s.invalidate.valid = false := rfl
@[simp] theorem State.invalidate_subKinds : s.invalidate.subKinds = s.subKinds := rfl
@[simp] theorem State.invalidate_cbEn : s.invalidate.cbEn = s.cbEn := rfl
@[simp] theorem State.invalidate_dstLatch : s.invalidate.dstLatch = s.dstLatch := rfl
@[simp] theorem State.invalidate_running : s.invalidate.running = s.running := rfl
@[simp] theorem State.invalidate_wdArmed : s.invalidate.wdArmed = s.wdArmed := rfl
@[simp] theorem State.invalidate_cfg : s.invalidate.cfg = s.cfg := rfl
@[simp] theorem State.invalidate_ports : s.invalidate.ports = s.ports := rfl
@[simp] theorem State.invalidate_pending : s.invalidate.pending = s.pending := rfl

@[simp] theorem State.commit_sync (d : DateTime) : (s.commit d).sync = s.sync := rfl
@[simp] theorem State.commit_tick (d : DateTime) : (s.commit d).tick = s.tick := rfl
@[simp] theorem State.commit_buf (d : DateTime) : (s.commit d).buf = s.buf := rfl
@[simp] theorem State.commit_lt (d : DateTime) : (s.commit d).lt = s.lt := rfl
@[simp] theorem State.commit_ltValid (d : DateTime) : (s.commit d).ltValid = s.ltValid := rfl
@[simp] theorem State.commit_tHi (d : DateTime) : (s.commit d).tHi = s.tHi := rfl
@[simp] theorem State.commit_tHiValid (d : DateTime) : (s.commit d).tHiValid = s.tHiValid := rfl
@[simp] theorem State.commit_tLo (d : DateTime) : (s.commit d).tLo = s.tLo := rfl
@[simp] theorem State.commit_tLoValid (d : DateTime) : (s.commit d).tLoValid = s.tLoValid := rfl
@[simp] theorem State.commit_lastDur (d : DateTime) : (s.commit d).lastDur = s.lastDur := rfl
@[simp] theorem State.commit_cur (d : DateTime) : (s.commit d).cur = d := rfl
@[simp] theorem State.commit_prev (d : DateTime) : (s.commit d).prev = s.cur := rfl
@[simp] theorem State.commit_valid (d : DateTime) : (s.commit d).valid = true := rfl
@[simp] theorem State.commit_subKinds (d : DateTime) : (s.commit d).subKinds = s.subKinds := rfl
@[simp] theorem State.commit_cbEn (d : DateTime) : (s.commit d).cbEn = s.cbEn := rfl
@[simp] theorem State.commit_dstLatch (d : DateTime) : (s.commit d).dstLatch = s.dstLatch := rfl
@[simp] theorem State.commit_running (d : DateTime) : (s.commit d).running = s.running := rfl
@[simp] theorem State.commit_wdArmed (d : DateTime) : (s.commit d).wdArmed = s.wdArmed := rfl
@[simp] theorem State.commit_cfg (d : DateTime) : (s.commit d).cfg = s.cfg := rfl
@[simp] theorem State.commit_ports (d : DateTime) : (s.commit d).ports = s.ports := rfl
@[simp] theorem State.commit_pending (d : DateTime) : (s.commit d).pending = s.pending := rfl

@[simp] theorem State.latchDst_sync (a : Bit) : (s.latchDst a).sync = s.sync := rfl
@[simp] theorem State.latchDst_tick (a : Bit) : (s.latchDst a).tick = s.tick := rfl
@[simp] theorem State.latchDst_buf (a : Bit) : (s.latchDst a).buf = s.buf := rfl
@[simp] theorem State.latchDst_lt (a : Bit) : (s.latchDst a).lt = s.lt := rfl
@[simp] theorem State.latchDst_ltValid (a : Bit) : (s.latchDst a).ltValid = s.ltValid := rfl
@[simp] theorem State.latchDst_tHi (a : Bit) : (s.latchDst a).tHi = s.tHi := rfl
@[simp] theorem State.latchDst_tHiValid (a : Bit) : (s.latchDst a).tHiValid = s.tHiValid := rfl
@[simp] theorem State.latchDst_tLo (a : Bit) : (s.latchDst a).tLo = s.tLo := rfl
@[simp] theorem State.latchDst_tLoValid (a : Bit) : (s.latchDst a).tLoValid = s.tLoValid := rfl
@[simp] theorem State.latchDst_lastDur (a : Bit) : (s.latchDst a).lastDur = s.lastDur := rfl
@[simp] theorem State.latchDst_cur (a : Bit) : (s.latchDst a).cur = s.cur := rfl
@[simp] theorem State.latchDst_prev (a : Bit) : (s.latchDst a).prev = s.prev := rfl
@[simp] theorem State.latchDst_valid (a : Bit) : (s.latchDst a).valid = s.valid := rfl
@[simp] theorem State.latchDst_subKinds (a : Bit) : (s.latchDst a).subKinds = s.subKinds := rfl
@[simp] theorem State.latchDst_cbEn (a : Bit) : (s.latchDst a).cbEn = s.cbEn := rfl
@[simp] theorem State.latchDst_dstLatch (a : Bit) : (s.latchDst a).dstLatch = a := rfl
@[simp] theorem State.latchDst_running (a : Bit) : (s.latchDst a).running = s.running := rfl
@[simp] theorem State.latchDst_wdArmed (a : Bit) : (s.latchDst a).wdArmed = s.wdArmed := rfl
@[simp] theorem State.latchDst_cfg (a : Bit) : (s.latchDst a).cfg = s.cfg := rfl
@[simp] theorem State.latchDst_ports (a : Bit) : (s.latchDst a).ports = s.ports := rfl
@[simp] theorem State.latchDst_pending (a : Bit) : (s.latchDst a).pending = s.pending := rfl

@[simp] theorem State.armWatchdog_sync : s.armWatchdog.sync = s.sync := rfl
@[simp] theorem State.armWatchdog_tick : s.armWatchdog.tick = s.tick := rfl
@[simp] theorem State.armWatchdog_buf : s.armWatchdog.buf = s.buf := rfl
@[simp] theorem State.armWatchdog_lt : s.armWatchdog.lt = s.lt := rfl
@[simp] theorem State.armWatchdog_ltValid : s.armWatchdog.ltValid = s.ltValid := rfl
@[simp] theorem State.armWatchdog_tHi : s.armWatchdog.tHi = s.tHi := rfl
@[simp] theorem State.armWatchdog_tHiValid : s.armWatchdog.tHiValid = s.tHiValid := rfl
@[simp] theorem State.armWatchdog_tLo : s.armWatchdog.tLo = s.tLo := rfl
@[simp] theorem State.armWatchdog_tLoValid : s.armWatchdog.tLoValid = s.tLoValid := rfl
@[simp] theorem State.armWatchdog_lastDur : s.armWatchdog.lastDur = s.lastDur := rfl
@[simp] theorem State.armWatchdog_cur : s.armWatchdog.cur = s.cur := rfl
@[simp] theorem State.armWatchdog_prev : s.armWatchdog.prev = s.prev := rfl
@[simp] theorem State.armWatchdog_valid : s.armWatchdog.valid = s.valid := rfl
@[simp] theorem State.armWatchdog_subKinds : s.armWatchdog.subKinds = s.subKinds := rfl
@[simp] theorem State.armWatchdog_cbEn : s.armWatchdog.cbEn = s.cbEn := rfl
@[simp] theorem State.armWatchdog_dstLatch : s.armWatchdog.dstLatch = s.dstLatch := rfl
@[simp] theorem State.armWatchdog_running : s.armWatchdog.running = s.running := rfl
@[simp] theorem State.armWatchdog_wdArmed : s.armWatchdog.wdArmed = true := rfl
@[simp] theorem State.armWatchdog_cfg : s.armWatchdog.cfg = s.cfg := rfl
@[simp] theorem State.armWatchdog_ports : s.armWatchdog.ports = { s.ports with wdArm := some (wdDelay s.cfg) } := rfl
@[simp] theorem State.armWatchdog_pending : s.armWatchdog.pending = s.pending := rfl

@[simp] theorem State.cancelWatchdog_sync : s.cancelWatchdog.sync = s.sync := rfl
@[simp] theorem State.cancelWatchdog_tick : s.cancelWatchdog.tick = s.tick := rfl
@[simp] theorem State.cancelWatchdog_buf : s.cancelWatchdog.buf = s.buf := rfl
@[simp] theorem State.cancelWatchdog_lt : s.cancelWatchdog.lt = s.lt := rfl
@[simp] theorem State.cancelWatchdog_ltValid : s.cancelWatchdog.ltValid = s.ltValid := rfl
@[simp] theorem State.cancelWatchdog_tHi : s.cancelWatchdog.tHi = s.tHi := rfl
@[simp] theorem State.cancelWatchdog_tHiValid : s.cancelWatchdog.tHiValid = s.tHiValid := rfl
@[simp] theorem State.cancelWatchdog_tLo : s.cancelWatchdog.tLo = s.tLo := rfl
@[simp] theorem State.cancelWatchdog_tLoValid : s.cancelWatchdog.tLoValid = s.tLoValid := rfl
@[simp] theorem State.cancelWatchdog_lastDur : s.cancelWatchdog.lastDur = s.lastDur := rfl
@[simp] theorem State.cancelWatchdog_cur : s.cancelWatchdog.cur = s.cur := rfl
@[simp] theorem State.cancelWatchdog_prev : s.cancelWatchdog.prev = s.prev := rfl
@[simp] theorem State.cancelWatchdog_valid : s.cancelWatchdog.valid = s.valid := rfl
@[simp] theorem State.cancelWatchdog_subKinds : s.cancelWatchdog.subKinds = s.subKinds := rfl
@[simp] theorem State.cancelWatchdog_cbEn : s.cancelWatchdog.cbEn = s.cbEn := rfl
@[simp] theorem State.cancelWatchdog_dstLatch : s.cancelWatchdog.dstLatch = s.dstLatch := rfl
@[simp] theorem State.cancelWatchdog_running : s.cancelWatchdog.running = s.running := rfl
@[simp] theorem State.cancelWatchdog_wdArmed : s.cancelWatchdog.wdArmed = false := rfl
@[simp] theorem State.cancelWatchdog_cfg : s.cancelWatchdog.cfg = s.cfg := rfl
@[simp] theorem State.cancelWatchdog_ports : s.cancelWatchdog.ports = { s.ports with wdCancel := true } := rfl
@[simp] theorem State.cancelWatchdog_pending : s.cancelWatchdog.pending = s.pending := rfl

@[simp] theorem State.disarm_sync : s.disarm.sync = s.sync := rfl
@[simp] theorem State.disarm_tick : s.disarm.tick = s.tick := rfl
@[simp] theorem State.disarm_buf : s.disarm.buf = s.buf := rfl
@[simp] theorem State.disarm_lt : s.disarm.lt = s.lt := rfl
@[simp] theorem State.disarm_ltValid : s.disarm.ltValid = s.ltValid := rfl
@[simp] theorem State.disarm_tHi : s.disarm.tHi = s.tHi := rfl
@[simp] theorem State.disarm_tHiValid : s.disarm.tHiValid = s.tHiValid := rfl
@[simp] theorem State.disarm_tLo : s.disarm.tLo = s.tLo := rfl
@[simp] theorem State.disarm_tLoValid : s.disarm.tLoValid = s.tLoValid := rfl
@[simp] theorem State.disarm_lastDur : s.disarm.lastDur = s.lastDur := rfl
@[simp] theorem State.disarm_cur : s.disarm.cur = s.cur := rfl
@[simp] theorem State.disarm_prev : s.disarm.prev = s.prev := rfl
@[simp] theorem State.disarm_valid : s.disarm.valid = s.valid := rfl
@[simp] theorem State.disarm_subKinds : s.disarm.subKinds = s.subKinds := rfl
@[simp] theorem State.disarm_cbEn : s.disarm.cbEn = s.cbEn := rfl
@[simp] theorem State.disarm_dstLatch : s.disarm.dstLatch = s.dstLatch := rfl
@[simp] theorem State.disarm_running : s.disarm.running = s.running := rfl
@[simp] theorem State.disarm_wdArmed : s.disarm.wdArmed = false := rfl
@[simp] theorem State.disarm_cfg : s.disarm.cfg = s.cfg := rfl
@[simp] theorem State.disarm_ports : s.disarm.ports = s.ports := rfl
@[simp] theorem State.disarm_pending : s.disarm.pending = s.pending := rfl

@[simp] theorem State.setRunning_sync (b : Bool) : (s.setRunning b).sync = s.sync := rfl
@[simp] theorem State.setRunning_tick (b : Bool) : (s.setRunning b).tick = s.tick := rfl
@[simp] theorem State.setRunning_buf (b : Bool) : (s.setRunning b).buf = s.buf := rfl
@[simp] theorem State.setRunning_lt (b : Bool) : (s.setRunning b).lt = s.lt := rfl
@[simp] theorem State.setRunning_ltValid (b : Bool) : (s.setRunning b).ltValid = s.ltValid := rfl
@[simp] theorem State.setRunning_tHi (b : Bool) : (s.setRunning b).tHi = s.tHi := rfl
@[simp] theorem State.setRunning_tHiValid (b : Bool) : (s.setRunning b).tHiValid = s.tHiValid := rfl
@[simp] theorem State.setRunning_tLo (b : Bool) : (s.setRunning b).tLo = s.tLo := rfl
@[simp] theorem State.setRunning_tLoValid (b : Bool) : (s.setRunning b).tLoValid = s.tLoValid := rfl
@[simp] theorem State.setRunning_lastDur (b : Bool) : (s.setRunning b).lastDur = s.lastDur := rfl
@[simp] theorem State.setRunning_cur (b : Bool) : (s.setRunning b).cur = s.cur := rfl
@[simp] theorem State.setRunning_prev (b : Bool) : (s.setRunning b).prev = s.prev := rfl
@[simp] theorem State.setRunning_valid (b : Bool) : (s.setRunning b).valid = s.valid := rfl
@[simp] theorem State.setRunning_subKinds (b : Bool) : (s.setRunning b).subKinds = s.subKinds := rfl
@[simp] theorem State.setRunning_cbEn (b : Bool) : (s.setRunning b).cbEn = s.cbEn := rfl
@[simp] theorem State.setRunning_dstLatch (b : Bool) : (s.setRunning b).dstLatch = s.dstLatch := rfl
@[simp] theorem State.setRunning_running (b : Bool) : (s.setRunning b).running = b := rfl
@[simp] theorem State.setRunning_wdArmed (b : Bool) : (s.setRunning b).wdArmed = s.wdArmed := rfl
@[simp] theorem State.setRunning_cfg (b : Bool) : (s.setRunning b).cfg = s.cfg := rfl
@[simp] theorem State.setRunning_ports (b : Bool) : (s.setRunning b).ports = s.ports := rfl
@[simp] theorem State.setRunning_pending (b : Bool) : (s.setRunning b).pending = s.pending := rfl

@[simp] theorem State.rst_sync : s.rst.sync = .searching := rfl
@[simp] theorem State.rst_tick : s.rst.tick = 0 := rfl
@[simp] theorem State.rst_buf : s.rst.buf = [] := rfl
@[simp] theorem State.rst_lt : s.rst.lt = List.replicate 59 .zero := rfl
@[simp] theorem State.rst_ltValid : s.rst.ltValid = false := rfl
@[simp] theorem State.rst_tHi : s.rst.tHi = 0 := rfl
@[simp] theorem State.rst_tHiValid : s.rst.tHiValid = false := rfl
@[simp] theorem State.rst_tLo : s.rst.tLo = 0 := rfl
@[simp] theorem State.rst_tLoValid : s.rst.tLoValid = false := rfl
@[simp] theorem State.rst_lastDur : s.rst.lastDur = 0 := rfl
@[simp] theorem State.rst_cur : s.rst.cur = .zeros := rfl
@[simp] theorem State.rst_prev : s.rst.prev = .zeros := rfl
@[simp] theorem State.rst_valid : s.rst.valid = false := rfl
@[simp] theorem State.rst_subKinds : s.rst.subKinds = 0 := rfl
@[simp] theorem State.rst_cbEn : s.rst.cbEn = false := rfl
@[simp] theorem State.rst_dstLatch : s.rst.dstLatch = .zero := rfl
@[simp] theorem State.rst_running : s.rst.running = false := rfl
@[simp] theorem State.rst_wdArmed : s.rst.wdArmed = false := rfl
@[simp] theorem State.rst_cfg : s.rst.cfg = s.cfg := rfl
@[simp] theorem State.rst_ports : s.rst.ports = .quiet := rfl
@[simp] theorem State.rst_pending : s.rst.pending = s.pending := rfl

@[simp] theorem State.setSubscription_sync (kinds : KindMask) (cb : Bool) : (s.setSubscription kinds cb).sync = s.sync := rfl
@[simp] theorem State.setSubscription_tick (kinds : KindMask) (cb : Bool) : (s.setSubscription kinds cb).tick = s.tick := rfl
@[simp] theorem State.setSubscription_buf (kinds : KindMask) (cb : Bool) : (s.setSubscription kinds cb).buf = s.buf := rfl
@[simp] theorem State.setSubscription_lt (kinds : KindMask) (cb : Bool) : (s.setSubscription kinds cb).lt = s.lt := rfl
@[simp] theorem State.setSubscription_ltValid (kinds : KindMask) (cb : Bool) : (s.setSubscription kinds cb).ltValid = s.ltValid := rfl
@[simp] theorem State.setSubscription_tHi (kinds : KindMask) (cb : Bool) : (s.setSubscription kinds cb).tHi = s.tHi := rfl
@[simp] theorem State.setSubscription_tHiValid (kinds : KindMask) (cb : Bool) : (s.setSubscription kinds cb).tHiValid = s.tHiValid := rfl
@[simp] theorem State.setSubscription_tLo (kinds : KindMask) (cb : Bool) : (s.setSubscription kinds cb).tLo = s.tLo := rfl
@[simp] theorem State.setSubscription_tLoValid (kinds : KindMask) (cb : Bool) : (s.setSubscription kinds cb).tLoValid = s.tLoValid := rfl
@[simp] theorem State.setSubscription_lastDur (kinds : KindMask) (cb : Bool) : (s.setSubscription kinds cb).lastDur = s.lastDur := rfl
@[simp] theorem State.setSubscription_cur (kinds : KindMask) (cb : Bool) : (s.setSubscription kinds cb).cur = s.cur := rfl
@[simp] theorem State.setSubscription_prev (kinds : KindMask) (cb : Bool) : (s.setSubscription kinds cb).prev = s.prev := rfl
@[simp] theorem State.setSubscription_valid (kinds : KindMask) (cb : Bool) : (s.setSubscription kinds cb).valid = s.valid := rfl
@[simp] theorem State.setSubscription_subKinds (kinds : KindMask) (cb : Bool) : (s.setSubscription kinds cb).subKinds = kinds := rfl
@[simp] theorem State.setSubscription_cbEn (kinds : KindMask) (cb : Bool) : (s.setSubscription kinds cb).cbEn = cb := rfl
@[simp] theorem State.setSubscription_dstLatch (kinds : KindMask) (cb : Bool) : (s.setSubscription kinds cb).dstLatch = s.dstLatch := rfl
@[simp] theorem State.setSubscription_running (kinds : KindMask) (cb : Bool) : (s.setSubscription kinds cb).running = s.running := rfl
@[simp] theorem State.setSubscription_wdArmed (kinds : KindMask) (cb : Bool) : (s.setSubscription kinds cb).wdArmed = s.wdArmed := rfl
@[simp] theorem State.setSubscription_cfg (kinds : KindMask) (cb : Bool) : (s.setSubscription kinds cb).cfg = s.cfg := rfl
@[simp] theorem State.setSubscription_ports (kinds : KindMask) (cb : Bool) : (s.setSubscription kinds cb).ports = s.ports := rfl
@[simp] theorem State.setSubscription_pending (kinds : KindMask) (cb : Bool) : (s.setSubscription kinds cb).pending = s.pending := rfl

@[simp] theorem Ports.idle_rsp (p : Ports) : p.idle.rsp = none := rfl
@[simp] theorem Ports.idle_irq (p : Ports) : p.idle.irq = false := rfl
@[simp] theorem Ports.idle_wdArm (p : Ports) : p.idle.wdArm = none := rfl
@[simp] theorem Ports.idle_wdCancel (p : Ports) : p.idle.wdCancel = false := rfl
@[simp] theorem Ports.idle_cls (p : Ports) : p.idle.cls = none := rfl
@[simp] theorem Ports.idle_dec (p : Ports) : p.idle.dec = p.dec := rfl

end Sys2Proof.Machine
end

