-- ==== Sys2Proof/Laws/Ops.lean ====
section
/-! SUPPORT. What each shared operation can do, said once: the pause test, the measurement, the decode, the dispatch, the acceptance of a bit
and the whole falling edge. -/

namespace Sys2Proof.Machine

/-! Ranges and pauses. -/

theorem inrange_iff (v lo hi : Duration) : inrange v lo hi = true ↔ lo.toNat ≤ v.toNat ∧ v.toNat ≤ hi.toNat := by
  simp [inrange]

/-- A time difference is a `TS_W`-bit number when `TS_W` is at most 32 (R94). -/
theorem tsdiff_toNat (n : Nat) (a b : Timestamp) : (tsdiff n a b).toNat = (a - b).toNat % 2 ^ n := by
  have h : (a - b).toNat % 2 ^ n < 2 ^ 32 := Nat.lt_of_le_of_lt (Nat.mod_le _ _) (a - b).isLt
  simp only [tsdiff, BitVec.toNat_ofNat]
  exact Nat.mod_eq_of_lt h

theorem tsdiff_lt (n : Nat) (a b : Timestamp) : (tsdiff n a b).toNat < 2 ^ n := by
  rw [tsdiff_toNat]; exact Nat.mod_lt _ (Nat.two_pow_pos n)

/-- R111 (b): a range with its ends exchanged holds nothing. -/
theorem inrange_empty {lo hi : Duration} (h : hi.toNat < lo.toNat) (v : Duration) : inrange v lo hi = false := by
  cases e : inrange v lo hi
  · rfl
  · have := (inrange_iff v lo hi).1 e; omega

/-- Step 1 of an edge (R122): the transition, or nothing. -/
theorem detectPause_cases (s : State) (ts last : Timestamp) (v : Bool) :
    (s.sync = .searching ∧ pauseElapsed s.cfg ts last v = true ∧ s.detectPause ts last v = s.synchronize) ∨
    (¬(s.sync = .searching ∧ pauseElapsed s.cfg ts last v = true) ∧ s.detectPause ts last v = s) := by
  unfold State.detectPause
  split <;> simp_all

/-- A block that is synchronized does not look at the pause (R122 d). -/
theorem detectPause_synchronized {s : State} (h : s.sync = .synchronized) (ts last : Timestamp) (v : Bool) : s.detectPause ts last v = s := by
  simp [State.detectPause, h]

/-- Step 3 of `EDGE.LO` (R125). -/
theorem measurePulse_cases (s : State) (ts : Timestamp) :
    (s.tHiValid = true ∧ s.measurePulse ts =
      (classifyPulse s.cfg (tsdiff s.cfg.tsW ts s.tHi),
        (s.recordDuration (tsdiff s.cfg.tsW ts s.tHi)).reportClass (classifyPulse s.cfg (tsdiff s.cfg.tsW ts s.tHi)))) ∨
    (s.tHiValid = false ∧ s.measurePulse ts = (.invalid, s)) := by
  unfold State.measurePulse
  cases h : s.tHiValid <;> simp

/-! The decoder. -/

/-- `FIELDS` (R169, R175): an abort with its cause, or the fields of a 59-bit telegram with good markers. -/
theorem fieldsOf_cases (t : List Bit) :
    (t.length ≠ 59 ∧ fieldsOf t = .abort .len) ∨
    (t.length = 59 ∧ bitAt t 0 = .one ∧ fieldsOf t = .abort .mark0) ∨
    (t.length = 59 ∧ bitAt t 0 = .zero ∧ bitAt t 20 = .zero ∧ fieldsOf t = .abort .mark20) ∨
    (t.length = 59 ∧ bitAt t 0 = .zero ∧ bitAt t 20 = .one ∧
      fieldsOf t = .fields (extractFields t) (parityMinute t) (parityHour t) (parityDate t)) := by
  unfold fieldsOf
  by_cases h : t.length = 59 <;> cases h0 : bitAt t 0 <;> cases h20 : bitAt t 20 <;> simp [h]

/-- What a result does to a state: the commit of a full success, or the clearing of `valid` (R163, R172, R173). -/
theorem applyDecode_cases (s : State) (r : DecodeResult) :
    (∃ f, r = .fields f true true true ∧ s.applyDecode r = s.commit (committedTime f)) ∨
    ((∀ f, r ≠ .fields f true true true) ∧ s.applyDecode r = s.invalidate) := by
  cases r with
  | abort c => exact .inr ⟨by simp, rfl⟩
  | fields f a b c => cases a <;> cases b <;> cases c <;> simp [State.applyDecode]

/-- `DECODE` (R160): `dec` takes the result; then the commit, or the clearing of `valid`. -/
theorem decodeTelegram_cases (s : State) (t : List Bit) :
    (∃ f, fieldsOf t = .fields f true true true ∧
      s.decodeTelegram t = (s.reportDec (fieldsOf t)).commit (committedTime f)) ∨
    ((∀ f, fieldsOf t ≠ .fields f true true true) ∧ s.decodeTelegram t = (s.reportDec (fieldsOf t)).invalidate) := by
  unfold State.decodeTelegram
  exact applyDecode_cases (s.reportDec (fieldsOf t)) (fieldsOf t)

/-! What a decode leaves alone (R160). -/

theorem decodeTelegram_frame (s : State) (t : List Bit) :
    (s.decodeTelegram t).sync = s.sync ∧ (s.decodeTelegram t).tick = s.tick ∧ (s.decodeTelegram t).buf = s.buf ∧
    (s.decodeTelegram t).lt = s.lt ∧ (s.decodeTelegram t).ltValid = s.ltValid ∧ (s.decodeTelegram t).tHi = s.tHi ∧
    (s.decodeTelegram t).tHiValid = s.tHiValid ∧ (s.decodeTelegram t).tLo = s.tLo ∧ (s.decodeTelegram t).tLoValid = s.tLoValid ∧
    (s.decodeTelegram t).lastDur = s.lastDur ∧ (s.decodeTelegram t).subKinds = s.subKinds ∧ (s.decodeTelegram t).cbEn = s.cbEn ∧
    (s.decodeTelegram t).dstLatch = s.dstLatch ∧ (s.decodeTelegram t).running = s.running ∧
    (s.decodeTelegram t).wdArmed = s.wdArmed ∧ (s.decodeTelegram t).cfg = s.cfg ∧
    (s.decodeTelegram t).ports = { s.ports with dec := some (fieldsOf t) } ∧ (s.decodeTelegram t).pending = s.pending := by
  obtain ⟨f, -, h⟩ | ⟨-, h⟩ := decodeTelegram_cases s t <;> rw [h] <;> simp

/-- `DISPATCH` writes the latch and the strobe (R190). -/
theorem dispatchChanges_eq (s : State) :
    s.dispatchChanges =
      { s with dstLatch := s.announcement, ports := { s.ports with irq := irqDue s.cbEn s.subKinds s.met } } := rfl

/-! The assembler. -/

/-- Step 5b (R130). -/
theorem decodeTrigger_cases (s : State) :
    (s.tick = 1 ∧ s.ltValid = true ∧ s.decodeTrigger = (s.decodeTelegram s.lt).dispatchChanges) ∨
    (¬(s.tick = 1 ∧ s.ltValid = true) ∧ s.decodeTrigger = s) := by
  unfold State.decodeTrigger
  split <;> simp_all

/-- Step 5 (R127, R128, R130): the bit is dropped, or completes the frame, or triggers the decode, or is only stored. -/
theorem acceptBit_cases (s : State) (b : Bit) :
    (s.sync = .searching ∧ s.acceptBit b = s) ∨
    (s.sync = .synchronized ∧ 58 ≤ s.tick ∧ s.acceptBit b = (s.append b).complete) ∨
    (s.sync = .synchronized ∧ s.tick = 0 ∧ s.ltValid = true ∧
      s.acceptBit b = ((s.append b).decodeTelegram s.lt).dispatchChanges) ∨
    (s.sync = .synchronized ∧ s.tick ≤ 57 ∧ ¬(s.tick = 0 ∧ s.ltValid = true) ∧ s.acceptBit b = s.append b) := by
  cases hs : s.sync with
  | searching => simp [State.acceptBit, hs]
  | synchronized =>
    by_cases h58 : 58 ≤ s.tick
    · have h : s.acceptBit b = (s.append b).complete := by
        simp only [State.acceptBit, hs, if_true, State.append_tick]
        exact if_pos (by omega)
      exact .inr (.inl ⟨rfl, h58, h⟩)
    · have h : s.acceptBit b = (s.append b).decodeTrigger := by
        simp only [State.acceptBit, hs, if_true, State.append_tick]
        exact if_neg (by omega)
      obtain ⟨h1, h2, h3⟩ | ⟨h1, h3⟩ := decodeTrigger_cases (s.append b)
      · simp only [State.append_tick, State.append_ltValid, State.append_lt] at h1 h2 h3
        exact .inr (.inr (.inl ⟨rfl, by omega, h2, h.trans h3⟩))
      · simp only [State.append_tick, State.append_ltValid] at h1
        exact .inr (.inr (.inr ⟨rfl, by omega, fun hc => h1 ⟨by omega, hc.2⟩, h.trans h3⟩))

/-- Steps 4 and 5 (R126, R127). -/
theorem consumePulse_cases (s : State) (k : PulseClass) :
    (k = .invalid ∧ s.consumePulse k = s.resync) ∨ (∃ b, classBit k = some b ∧ k ≠ .invalid ∧ s.consumePulse k = s.acceptBit b) := by
  cases k
  · exact .inr ⟨.zero, rfl, by simp, rfl⟩
  · exact .inr ⟨.one, rfl, by simp, rfl⟩
  · exact .inl ⟨rfl, rfl⟩

/-! Completion. -/

/-- No operation raises (R220): every instruction of every state has a next state. -/
theorem exec_next (i : Instr) (s : State) : ∃ t, exec i s = .next t := by
  cases i <;> exact ⟨_, rfl⟩

end Sys2Proof.Machine
end

