-- ==== Sys2Proof/Laws/PerInstr.lean ====
section
/-! SUPPORT. The family of facts stated once per instruction: the operation code and small argument of the word that spells it (R97). -/

namespace Sys2Proof.Laws.OpFields

/-- The `op` and `a` of R97's table; the four rows that are no event word have none. -/
def expected : Instr → Option (BitVec 4 × BitVec 4)
  | .edgeHi _ => some (1, 1)
  | .edgeLo _ => some (1, 0)
  | .timeout => some (2, 0)
  | .start => some (3, 0)
  | .stop => some (4, 0)
  | .subscribe _ _ => some (5, 0)
  | .getLastSignal => some (6, 0)
  | .getDatetime _ => some (7, 0)
  | .getStatus => some (8, 0)
  | .telegram _ => none
  | .classify _ => none
  | .decode _ => none
  | .dispatch => none

/-- The event word of an instruction, if it has one, carries the operation code and small argument of its row. -/
def Statement (i : Instr) : Prop :=
  ∀ w, encode i = some (.event w) → expected i = some (opField w, argField w)

/-- An instruction spelled by the event word of three fields meets the statement with the first two. -/
theorem of_eventWord {i : Instr} {op a : BitVec 4} {p : BitVec 32} (he : encode i = some (.event (eventWord op a p)))
    (hx : expected i = some (op, a)) : Statement i := by
  intro w hw
  rw [he] at hw
  cases hw
  simp [hx]

/-- An instruction with no event word meets the statement. -/
theorem of_no_event {i : Instr} (he : ∀ w, encode i ≠ some (.event w)) : Statement i :=
  fun w hw => absurd hw (he w)

theorem edgeHi (ts : Timestamp) : Statement (.edgeHi ts) := of_eventWord rfl rfl
theorem edgeLo (ts : Timestamp) : Statement (.edgeLo ts) := of_eventWord rfl rfl
theorem timeout : Statement .timeout := of_eventWord rfl rfl
theorem start : Statement .start := of_eventWord rfl rfl
theorem stop : Statement .stop := of_eventWord rfl rfl
theorem subscribe (kinds : KindMask) (cb : Bool) : Statement (.subscribe kinds cb) := of_eventWord rfl rfl
theorem getLastSignal : Statement .getLastSignal := of_eventWord rfl rfl
theorem getDatetime (ws : Bool) : Statement (.getDatetime ws) := of_eventWord rfl rfl
theorem getStatus : Statement .getStatus := of_eventWord rfl rfl
theorem telegram (frame : FrameWord) : Statement (.telegram frame) := of_no_event (by simp [encode])
theorem classify (d : Duration) : Statement (.classify d) := of_no_event (by simp [encode])
theorem decode (t : List Bit) : Statement (.decode t) := of_no_event (by simp [encode])
theorem dispatch : Statement .dispatch := of_no_event (by simp [encode])

end Sys2Proof.Laws.OpFields
end

