-- ==== Sys2Proof/Laws/Step.lean ====
section
/-! SUPPORT. Everything one step can do, said once. -/

namespace Sys2Proof.Machine

/-- A step that answers a next state was idle, a reset, or the operation of the word taken (R14, R99, R250). -/
theorem step_next_cases {s t : State} (h : step s = .next t) :
    (s.pending = [] ∧ t = s.beginOp) ∨
    (∃ rest, s.pending = .rst :: rest ∧ t = State.rst { s with pending := rest }) ∨
    (∃ w rest i, s.pending = .word w :: rest ∧ decode s.cfg (.event w) = .instr i ∧ exec i { s with pending := rest } = .next t) := by
  unfold step State.fetch at h
  cases hp : s.pending with
  | nil =>
    simp only [hp, idleStep] at h
    cases h
    exact .inl ⟨rfl, rfl⟩
  | cons i rest =>
    cases i with
    | rst =>
      simp only [hp, deliver] at h
      cases h
      exact .inr (.inl ⟨rest, rfl, rfl⟩)
    | word w =>
      simp only [hp, deliver] at h
      cases hd : decode s.cfg (.event w) with
      | instr i =>
        simp only [hd] at h
        exact .inr (.inr ⟨w, rest, i, rfl, hd, h⟩)
      | reserved why =>
        simp only [hd] at h
        cases h

/-- The step of a word that decodes. -/
theorem step_word {s : State} {w : EventWord} {rest : List Input} (hp : s.pending = .word w :: rest) {i : Instr}
    (hd : decode s.cfg (.event w) = .instr i) : step s = exec i { s with pending := rest } := by
  simp only [step, State.fetch, hp, deliver, hd]

end Sys2Proof.Machine
end

