-- ==== Sys2Proof/Laws/Timing.lean ====
section
/-! SUPPORT. What one input does to a trace, and what a well-timed trace promises at its first input (R153). -/

namespace Sys2Proof

open Machine

/-- One input: a reset, an operation's next state, or a reserved word that changes nothing (R99, R250). -/
theorem after_cases (s : State) (x : Input) :
    (x = .rst ∧ s.after x = s.rst) ∨
    (∃ w i, x = .word w ∧ s.operation x = some i ∧ exec i s = .next (s.after x)) ∨
    (∃ w, x = .word w ∧ s.operation x = none ∧ s.after x = s.beginOp) := by
  cases x with
  | rst => exact .inl ⟨rfl, rfl⟩
  | word w =>
    cases hd : decode s.cfg (.event w) with
    | instr i =>
      obtain ⟨t, ht⟩ := exec_next i s
      refine .inr (.inl ⟨w, i, rfl, ?_, ?_⟩) <;> simp only [State.operation, State.after, deliver, hd, ht, Decoded.toOption]
    | reserved why =>
      refine .inr (.inr ⟨w, rfl, ?_, ?_⟩) <;> simp only [State.operation, State.after, deliver, hd, Decoded.toOption]

/-- A trace over its first input (R153). -/
theorem wellTimedTrace_cons {accuracy : Nat} {tm : Timer} {x : TimedInput} {xs : List TimedInput} {horizon : Nat} {s : State} :
    wellTimedTrace accuracy tm (x :: xs) horizon s = true ↔
      tm.onTime s.cfg accuracy x.time = true ∧
      (s.operation x.input = some .timeout → s.wdArmed = true ∧ tm.expired s.cfg x.time = true) ∧
      wellTimedTrace accuracy (tm.next x.time (s.after x.input)) xs horizon (s.after x.input) = true := by
  simp only [wellTimedTrace, Bool.and_eq_true, Bool.or_eq_true, bne_iff_ne, ne_eq, and_assoc, imp_iff_not_or]

theorem Timer.onTime_iff (tm : Timer) (c : Config) (accuracy now : Nat) :
    tm.onTime c accuracy now = true ↔ tm.now ≤ now ∧ ∀ a, tm.armedAt = some a → now ≤ a + wdDelay c + accuracy := by
  cases h : tm.armedAt <;> simp [Timer.onTime, h]

theorem Timer.expired_iff (tm : Timer) (c : Config) (now : Nat) :
    tm.expired c now = true ↔ ∃ a, tm.armedAt = some a ∧ a + wdDelay c ≤ now := by
  cases h : tm.armedAt <;> simp [Timer.expired, h]

end Sys2Proof
end

