-- ==== Sys2Proof/Tests/Slice0.lean ====
section
/-! SUPPORT. Tests: words and ill-formed terms, one step of each operation on the vectors of 95_test_vectors.md, and for each statement with
hypotheses a state that meets them. -/

namespace Sys2Proof.Tests

open Machine Claims

/-! Helpers. -/

/-- The next state of an outcome. -/
def next : Host.Outcome State Fault Refusal → Option State
  | .next t => some t
  | _ => none

/-- The refusal of an outcome. -/
def refusal : Host.Outcome State Fault Refusal → Option Refusal
  | .refused r => some r
  | _ => none

/-- The start state of table V-ASM: running and armed, nothing received. -/
def live : State := { State.reset with running := true, wdArmed := true }

/-- The start of rows A3 to A7. -/
def a3 : State := { live with tHi := 58000, tHiValid := true, tLo := 58100, tLoValid := true }

/-- The start of rows A9 and A11, but for `valid`. -/
def a9 : State :=
  { live with
    sync := .synchronized, tick := 20, buf := List.replicate 20 .zero, tHi := 80000, tHiValid := true, tLo := 79100, tLoValid := true }

/-- The start of row A12. -/
def a12 : State := { live with tHi := 60000, tHiValid := true, tLo := 58100, tLoValid := true }

/-- Telegram `TA` of 95_test_vectors.md: 13:37 on Tuesday 10 November 26. -/
def ta : List Bit := frameBits 0x49A290A76F40000

/-- The start of row A15. -/
def a15 : State :=
  { live with sync := .synchronized, tick := 58, buf := ta.take 58, tHi := 158000, tHiValid := true, tLo := 157100, tLoValid := true }

/-- The start of row A20. -/
def a20 : State :=
  { live with sync := .synchronized, lt := ta, ltValid := true, tHi := 160000, tHiValid := true, tLo := 158200, tLoValid := true }

/-- The date-time of `TA`. -/
def time1337 : DateTime := ⟨26, 11, 10, 1, 13, 37, 0, 0⟩

/-- A configuration with 16-bit timestamps. -/
def narrow : Config := { Config.standard with tsW := 16 }

/-- A telegram of 59 bits with the ones at the given indices. -/
def ones (is : List Nat) : List Bit := (List.range 59).map fun i => if i ∈ is then .one else .zero

/-! Well-formedness refuses an ill-formed term for each check. -/
/-- A width, a range number, two flags at one index. -/
theorem test_config_ok : Config.standard.ok = true ∧ [{ Config.standard with tsW := 33 }, { narrow with pauseHi := 65536 },
    { Config.standard with cetBit := Config.standard.cestBit }].all (fun c => !c.ok) = true := by decide


theorem test_wf_edgeHi : Instr.wf narrow (.edgeHi 65535) = true ∧ Instr.wf narrow (.edgeHi 65536) = false := by decide
theorem test_wf_edgeLo : Instr.wf narrow (.edgeLo 65535) = true ∧ Instr.wf narrow (.edgeLo 65536) = false := by decide
theorem test_wf_classify : Instr.wf narrow (.classify 65535) = true ∧ Instr.wf narrow (.classify 65536) = false := by decide
theorem test_wf_telegram_marker0 : Instr.wf .standard (.telegram 0x49A290A76F40001) = false := by decide
theorem test_wf_telegram_marker20 : Instr.wf .standard (.telegram 0x49A290A76E40000) = false := by decide
theorem test_wf_telegram : Instr.wf .standard (.telegram 0x49A290A76F40000) = true := by decide

/-! Words of R97 and R86, written out field by field: `op`, `a`, payload. -/

theorem test_decode_edgeHi : decodeEvent .standard ((0b0001 : BitVec 4) ++ (0b0001 : BitVec 4) ++ (0x1388 : BitVec 32)) = .instr (.edgeHi 5000) := by decide
theorem test_decode_edgeLo : decodeEvent .standard 0x1000013948 = .instr (.edgeLo 80200) := by decide
theorem test_decode_timeout : decodeEvent .standard 0x2000000000 = .instr .timeout := by decide
theorem test_decode_start : decodeEvent .standard 0x3000000000 = .instr .start := by decide
theorem test_decode_stop : decodeEvent .standard 0x4000000000 = .instr .stop := by decide
theorem test_decode_subscribe : decodeEvent .standard 0x5000000061 = .instr (.subscribe 0b100001 true) := by decide
theorem test_decode_subscribe_all : decodeEvent .standard 0x500000003F = .instr (.subscribe 0b111111 false) := by decide
theorem test_decode_getLastSignal : decodeEvent .standard 0x6000000000 = .instr .getLastSignal := by decide
theorem test_decode_getDatetime : decodeEvent .standard 0x7000000001 = .instr (.getDatetime true) := by decide
theorem test_decode_getStatus : decodeEvent .standard 0x8000000000 = .instr .getStatus := by decide
theorem test_decode_telegram : decodeFrame 0x49A290A76F40000 = .instr (.telegram 0x49A290A76F40000) := by decide
theorem test_internal_operations_have_no_word :
    encode (.classify 100) = none ∧ encode (.decode ta) = none ∧ encode .dispatch = none := by decide

/-- The frame word of `TA` is the string of 95_test_vectors.md, index 0 leftmost. -/
theorem test_frame_bits :
    ta = ones [18, 20, 21, 22, 23, 25, 26, 28, 29, 30, 33, 35, 40, 43, 45, 49, 51, 52, 55, 58] := by decide

/-! Table V-ENC, by name, and the two fixed bits of a frame. -/

theorem test_reserved_op : [0x0000000000, 0x9000000000, 0xF000000000].map (decodeEvent .standard) =
    List.replicate 3 (.reserved .unassignedOp) := by decide
theorem test_reserved_argument : [0x1200000000, 0x3100000000].map (decodeEvent .standard) = List.replicate 2 (.reserved .argument) := by decide
theorem test_reserved_payload : [0x2000000001, 0x5000000080, 0x7000000002].map (decodeEvent .standard) =
    List.replicate 3 (.reserved .payload) := by decide
theorem test_reserved_timestamp : decodeEvent narrow 0x1100010000 = .reserved .wideTimestamp := by decide
theorem test_reserved_marker0 : decodeFrame 0x49A290A76F40001 = .reserved .marker0 := by decide
theorem test_reserved_marker20 : decodeFrame 0x49A290A76E40000 = .reserved .marker20 := by decide

/-! One step of each operation. -/

/-- Row A3. -/
theorem test_edgeHi_pause : (next (execEdgeHi 60000 a3)).map (fun t => (t.sync, t.tick, t.tHi)) = some (.synchronized, 0, 60000) := by decide
/-- Rows A4 and A7: one below and one above the pause. -/
theorem test_edgeHi_no_pause : [59699, 60501].map (fun ts => (next (execEdgeHi ts a3)).map State.sync) =
    [some .searching, some .searching] := by decide
/-- Row A9. -/
theorem test_edgeLo_append : (next (execEdgeLo 80200 a9)).map (fun t => (t.tick, t.buf.getD 20 .zero, t.lastDur, t.tLo)) =
    some (21, .one, 200, 80200) := by decide
/-- Row A11. -/
theorem test_edgeLo_invalid : (next (execEdgeLo 80140 { a9 with valid := true })).map (fun t => (t.sync, t.tick, t.buf, t.lastDur, t.valid)) =
    some (.searching, 0, [], 140, true) := by decide
/-- Row W1, in part. -/
theorem test_timeout : (next (execTimeout { a9 with valid := true })).map (fun t => (t.sync, t.tick, t.buf, t.valid, t.wdArmed, t.running)) =
    some (.searching, 0, [], false, false, true) := by decide
/-- Row H1. -/
theorem test_start : (next (execStart .reset)).map (fun t => (t.running, t.wdArmed, t.ports.wdArm)) = some (true, true, some 3500) := by decide
/-- Row H2. -/
theorem test_stop : (next (execStop { a9 with valid := true })).map (fun t => (t.running, t.wdArmed, t.valid, t.ports.wdCancel, t.tick)) =
    some (false, false, false, true, 20) := by decide
/-- Row H5: replaced, not merged. -/
theorem test_subscribe : (next (execSubscribe 0b000010 true { live with subKinds := 0b100001 })).map (fun t => (t.subKinds, t.cbEn)) =
    some (0b000010, true) := by decide
/-- Rows H8 and H9. -/
theorem test_getLastSignal : [live, a20].map (fun s => (next (execGetLastSignal s)).bind fun t => t.ports.rsp.map (packResponse t.cfg)) =
    [some 0, some 0xC9A290A76F40000] := by decide
/-- Rows H11 and H12. -/
theorem test_getDatetime : [false, true].map (fun ws => (next (execGetDatetime ws { live with cur := time1337, tick := 42 })).bind fun t =>
    t.ports.rsp.map (packResponse t.cfg)) = [some 0x1280D0020280581A, some 0xA81280D0020280581A] := by decide
/-- Row H13: the weekday -1. -/
theorem test_getDatetime_negative : packResponse .standard (.datetime ⟨0, 1, 1, -1, 0, 0, 0, 0⟩) = 0xFFE00400800 := by decide
/-- Rows H15 and H16. -/
theorem test_getStatus : [true, false].map (fun v =>
    (next (execGetStatus { live with sync := .synchronized, valid := v, lastDur := 200, tick := 21, lt := ta })).bind fun t =>
      t.ports.rsp.map (packResponse t.cfg)) = [some 0x321547, some 0x321501] := by decide
/-- Row d1. -/
theorem test_telegram : (next (execTelegram 0x49A290A76F40000 live)).map (fun t => (t.cur, t.prev, t.valid)) =
    some (time1337, .zeros, true) := by decide
/-- Row d17. -/
theorem test_telegram_marker20 : (next (execTelegram 0x49A290A76E40000 live)).map (fun t => (t.ports.dec, t.valid)) =
    some (some (.abort .mark20), false) := by decide
/-- Table V-CLS at its boundaries. -/
theorem test_classify : [49, 50, 130, 131, 149, 150, 230, 231].map (fun d => (next (execClassify d live)).bind fun t => t.ports.cls) =
    [some .invalid, some .zero, some .zero, some .invalid, some .invalid, some .one, some .one, some .invalid] := by decide
/-- R111: a duration in both ranges is ZERO. -/
theorem test_classify_overlap : classifyPulse { Config.standard with falseHi := 160 } 155 = .zero := by decide
/-- Row d5. -/
theorem test_decode_parity : (next (execDecode (flipAt ta 21) live)).map (fun t => t.ports.dec) =
    some (some (.fields ⟨999, 13, 10, 1, 11, 26⟩ false true true)) := by decide
/-- Vector S3 (d24): one bit short. -/
theorem test_decode_short : (next (execDecode (ta.take 58) { live with cur := time1337, valid := true })).map (fun t =>
    (t.ports.dec, t.valid, t.cur)) = some (some (.abort .len), false, time1337) := by decide
/-- Row X1: one kind met and subscribed. -/
theorem test_dispatch : (next (execDispatch { live with
    prev := ⟨26, 11, 10, 1, 13, 36, 0, 0⟩, cur := time1337, subKinds := 0b000011, cbEn := true })).map (fun t => (t.ports.irq, t.dstLatch)) =
    some (true, .zero) := by decide
/-- Rows X7 to X9: the announcement's rise, its latch, its release. -/
theorem test_dispatch_announcement : [(Bit.one, Bit.zero), (.one, .one), (.zero, .one)].map (fun p =>
    (next (execDispatch { live with lt := (ones []).set 16 p.1, dstLatch := p.2, subKinds := 0b100000, cbEn := true })).map fun t =>
      (t.ports.irq, t.dstLatch)) = [some (true, .one), some (false, .one), some (false, .zero)] := by decide
/-- Row A20 through the host's fixed names: the word's bits, its placing, one step. -/
theorem test_withFetchWord_telegram : (next (step (State.reset.withFetchWord 64 0x49A290A76F40000))).map (fun t => (t.cur, t.valid)) =
    some (time1337, true) := by decide
theorem test_withFetchWord_event : (next (step (State.reset.withFetchWord 40 0x3000000000))).map State.running = some true := by decide
/-- A reserved word is refused by name (log 8). -/
theorem test_reserved_step : refusal (step (State.reset.withFetchWord 40 0x9000000000)) = some (.reservedWord .unassignedOp) := by decide
/-- R101, R102: a trace line, and a pulse as words. -/
theorem test_trace : traceLine (.subscribe 0b100001 true) = some "SUBSCRIBE MINUTE|DST_ANNOUNCED, 1" := by decide
theorem test_pulse_words : traceInputs (bitPulse .standard 63000 .zero) = [.word 0x110000F618, .word 0x100000F67C] := by decide

/-! Witnesses: states and operands that meet the hypotheses of each statement that has any. -/

theorem test_witness_DecodeInvertsEncode :
    Instr.wf narrow (.edgeLo 65535) = true ∧ encode (.edgeLo 65535) = some (.event 0x100000FFFF) := by decide
theorem test_witness_EncodeInvertsDecode :
    decode narrow (.event 0x100000FFFF) = .instr (.edgeLo 65535) ∧ decode narrow (.frame 0x49A290A76F40000) = .instr (.telegram 0x49A290A76F40000) := by
  decide
theorem test_witness_EventWords : Config.standard.tsW = 32 ∧ mnemonic (.edgeHi 5000) = "EDGE.HI" ∧
    decode .standard (.event 0x1100001388) = .instr (.edgeHi 5000) := by decide
theorem test_witness_StepRuns : ({ live with pending := [.word 0x3000000000] } : State).pending = .word 0x3000000000 :: [] ∧
    decode live.cfg (.event 0x3000000000) = .instr .start := by decide
/-- One word at the edge of each clause of R99, and one in none. -/
theorem test_witness_StepRefuses : ReservedFields narrow 0 15 0xFFFFFFFF ∧ ReservedFields narrow 9 0 0 ∧ ReservedFields narrow 1 2 0 ∧
    ReservedFields narrow 3 1 0 ∧ ReservedFields narrow 1 0 0x10000 ∧ ReservedFields narrow 8 0 1 ∧ ReservedFields narrow 5 0 0x80 ∧
    ReservedFields narrow 7 0 2 := by
  simp [ReservedFields, narrow, Config.standard]
theorem test_witness_StepRefuses_none : ¬ReservedFields narrow 1 1 0xFFFF ∧ ¬ReservedFields narrow 5 0 0x7F ∧ ¬ReservedFields narrow 7 0 1 := by
  simp [ReservedFields, narrow, Config.standard]
theorem test_witness_StepWithoutInput : State.reset.pending = [] := by decide
theorem test_witness_ResetInput : ({ a9 with pending := [.rst] } : State).pending = .rst :: [] := by decide
theorem test_witness_Classify : live.cfg = .standard := by decide
theorem test_witness_EdgesWhileStopped : ({ a9 with running := false } : State).running = false := by decide
/-- With a pause at either end of the range, and without one. -/
theorem test_witness_RisingEdge : a3.running = true ∧ a3.sync = .searching ∧ PauseSeen a3 59700 a3.tHi a3.tHiValid ∧
    PauseSeen a3 60500 a3.tHi a3.tHiValid ∧ ¬PauseSeen a3 59699 a3.tHi a3.tHiValid ∧ ¬PauseSeen a3 60501 a3.tHi a3.tHiValid := by decide
/-- A measured pulse out of both ranges, and no start. -/
theorem test_witness_InvalidPulse : a9.running = true ∧ pulseOutcome a9 80049 = .invalid ∧ pulseOutcome a9 80131 = .invalid ∧
    pulseOutcome a9 80149 = .invalid ∧ pulseOutcome a9 80231 = .invalid ∧ pulseOutcome { a9 with tHiValid := false } 80100 = .invalid := by decide
theorem test_witness_BitsAreDropped : a12.running = true ∧ a12.sync = .searching ∧ ¬PauseSeen { a12 with tLo := 59000 } 60050 59000 true ∧
    pulseOutcome { a12 with tLo := 59000 } 60050 = bitClass .zero ∧ pulseOutcome { a12 with tLo := 59000 } 60230 = bitClass .one := by decide
/-- Row A12 (a valid pulse) and row A13 (an INVALID one). -/
theorem test_witness_FallingEdgePause : a12.running = true ∧ a12.sync = .searching ∧ PauseSeen a12 60100 a12.tLo a12.tLoValid ∧
    pulseOutcome a12 60100 ≠ .invalid ∧ PauseSeen a12 60140 a12.tLo a12.tLoValid ∧ pulseOutcome a12 60140 = .invalid := by decide
/-- At the last slot that does not complete, and at the first with no last telegram. -/
theorem test_witness_AcceptedBit : ∀ s ∈ [{ a9 with tick := 57, ltValid := true }, { a9 with tick := 0, buf := [] }],
    s.running = true ∧ s.sync = .synchronized ∧ s.tick ≤ 57 ∧ ¬(s.tick = 0 ∧ s.ltValid = true) ∧ pulseOutcome s 80130 = bitClass .zero := by decide
theorem test_witness_FiftyNinthBit :
    a15.running = true ∧ a15.sync = .synchronized ∧ 58 ≤ a15.tick ∧ pulseOutcome a15 158200 = bitClass .one := by decide
theorem test_witness_FirstBit : a20.running = true ∧ a20.sync = .synchronized ∧ a20.tick = 0 ∧ a20.ltValid = true ∧
    pulseOutcome a20 160100 = bitClass .zero := by decide
theorem a9_inv : a9.Inv := by constructor <;> decide
theorem a15_inv : a15.Inv := by constructor <;> decide
theorem test_witness_FramePosition : a9.Inv ∧ a15.Inv := ⟨a9_inv, a15_inv⟩
/-- An entry into SYNCHRONIZED on each kind of edge, and a leaving. -/
theorem test_witness_Synchronization : (next (exec (.edgeHi 60000) a3)).map State.sync = some .synchronized ∧
    (next (exec (.edgeLo 60100) a12)).map State.sync = some .synchronized ∧ (next (exec (.edgeLo 80140) a9)).map State.sync = some .searching := by
  decide
theorem test_witness_EdgesDepend : (∃ t, exec (.edgeHi 60000) a3 = .next t) ∧ ∃ t, exec (.edgeLo 80200) a9 = .next t := ⟨⟨_, rfl⟩, _, rfl⟩

/-- 59 pulses at the ends of both ranges. -/
def pulses : List Pulse := [⟨0, 50, .zero⟩] ++ List.replicate 57 ⟨0, 130, .zero⟩ ++ [⟨0, 230, .one⟩]

def pulsed : State := { live with sync := .synchronized, pending := pulses.flatMap pulseWords }

theorem test_witness_FiftyNinePulses : pulsed.running = true ∧ pulsed.sync = .synchronized ∧ pulsed.tick = 0 ∧ pulsed.buf = [] ∧
    pulses.length = 59 ∧ pulsed.pending = pulses.flatMap pulseWords ++ [] := by decide
theorem test_witness_FiftyNinePulses_spell : ∀ p ∈ pulses, p.hi.toNat < 2 ^ pulsed.cfg.tsW ∧ p.lo.toNat < 2 ^ pulsed.cfg.tsW ∧
    spells pulsed.cfg (elapsed pulsed p.lo p.hi) = bitClass p.bit := by decide
theorem test_witness_EdgeAndTimeoutOrders : live.running = true := by decide
/-- For the fields, the minute and the hour, the weekday, the parity groups and the commit: `TA`, and `TA` with each group failing. -/
theorem test_witness_Fields : ∀ t ∈ [ta, flipAt ta 21, flipAt ta 35, flipAt ta 58], t.length = 59 ∧ val t 0 = 0 ∧ val t 20 = 1 := by decide
theorem test_witness_OneFlippedBit : ∃ u f, exec (.decode ta) live = .next u ∧ u.ports.dec = some (.fields f true true true) ∧
    ∀ i ∈ [21, 28, 29, 35, 36, 58], 21 ≤ i ∧ i ≤ 58 := ⟨_, _, rfl, rfl, by decide⟩
theorem test_witness_Framing : (ta.take 58).length ≠ 59 ∧ (ta ++ [Bit.zero]).length ≠ 59 ∧ ((flipAt ta 0).length = 59 ∧ val (flipAt ta 0) 0 = 1) ∧
    ((flipAt ta 20).length = 59 ∧ val (flipAt ta 20) 0 = 0 ∧ val (flipAt ta 20) 20 = 0) := by decide
theorem test_witness_DecodeIgnores : ∀ k ∈ [1, 19], ta ≠ flipAt ta k ∧ ta.length = (flipAt ta k).length ∧
    ∀ i < 59, (i = 0 ∨ 20 ≤ i) → ta.getD i .zero = (flipAt ta k).getD i .zero := by decide
/-- Both cases of a change of the last telegram. -/
theorem test_witness_LastTelegram : (next (exec (.edgeLo 158200) a15)).map State.lt = some ta ∧
    (next (exec (.edgeLo 80200) a9)).map State.lt = some a9.lt := by decide
/-- The three cases: nothing, an invalidation, a decode. -/
theorem test_witness_DecodedTime : decodes a9 (.edgeLo 80200) = none ∧ decodes a20 (.edgeLo 160100) = some ta ∧
    (∃ t, exec (.edgeLo 160100) a20 = .next t ∧ t.valid = true) ∧ ∃ t, exec .timeout a20 = .next t := by
  refine ⟨by decide, by decide, ⟨_, rfl, by decide⟩, _, rfl⟩
theorem test_witness_NoPulse : ({ a20 with subKinds := 0b111111 } : State).cbEn = false ∧ ({ a20 with cbEn := true } : State).subKinds = 0 ∧
    ∃ t, exec (.edgeLo 160100) a20 = .next t := ⟨by decide, by decide, _, rfl⟩
/-- After a ONE and after a ZERO. -/
theorem test_witness_Announcement : ∀ b ∈ [Bit.one, .zero],
    let s : State := { live with subKinds := 0b100000, cbEn := true, lt := (ones []).set 16 b }
    s.cbEn = true ∧ s.subKinds = 0b100000 ∧ (next (exec .dispatch s)).isSome = true ∧ (ones [16]).getD s.cfg.dstAnnBit .zero = .one := by decide
theorem test_witness_Pulses : ∃ t, step { a20 with cbEn := true, subKinds := 1, pending := [.word 0x1000027164] } = .next t ∧ t.ports.irq = true :=
  ⟨_, rfl, by decide⟩
/-- A bit accepted, a timeout, a status read between the two reads. -/
theorem test_witness_DatetimeIsStable : ∃ t u v, exec (.getDatetime false) a9 = .next t ∧
    RunsWithoutDecode t [.edgeLo 80200, .timeout, .getStatus] u ∧ exec (.getDatetime false) u = .next v :=
  ⟨_, _, _, rfl, ⟨by decide, _, rfl, by decide, _, rfl, by decide, _, rfl, rfl⟩, rfl⟩
/-- The lowest and the highest bit. -/
theorem test_witness_LastSignalRegister : ta.length = 59 ∧ (packResponse .standard (.lastSignal true ta)).testBit 58 = true ∧
    (packResponse .standard (.lastSignal true ta)).testBit 0 = false ∧ (packResponse .standard (.lastSignal false ta)).testBit 59 = false := by decide
theorem test_witness_EveryStep : a9.Inv ∧ ∃ t, step { a9 with pending := [.word 0x1000013948] } = .next t := ⟨a9_inv, _, rfl⟩
/-- For each clause an operation that changes what it speaks of, and one that changes a validity bit alone. -/
theorem test_witness_ControlState :
    (next (exec .start .reset)).map (fun t => (t.running, t.wdArmed)) = some (true, true) ∧
    (next (exec .timeout live)).map State.wdArmed = some false ∧
    (next (exec (.subscribe 1 true) live)).map (fun t => (t.subKinds, t.cbEn)) = some (1, true) ∧
    (next (exec .dispatch { live with lt := ones [16] })).map State.dstLatch = some .one ∧
    (next (exec (.edgeLo 160100) { a20 with lt := ones [16] })).map State.dstLatch = some .one ∧
    (next (exec (.edgeHi 0) live)).map (fun t => (t.tHi, t.tHiValid)) = some (live.tHi, true) ∧
    (next (exec (.edgeLo 0) live)).map (fun t => (t.tLo, t.tLoValid)) = some (live.tLo, true) ∧
    (next (exec (.edgeLo 80200) a9)).map State.lastDur = some 200 := by decide

/-- A falling edge at 3000 ms, a status read, and the expiry one `WD_DELAY` after the edge. -/
def silent : List TimedInput := [⟨3000, .word 0x1000013948⟩, ⟨5000, .word 0x8000000000⟩, ⟨6500, .word 0x2000000000⟩]

theorem test_witness_SilenceAfterAnEdge : a9.running = true ∧ decode a9.cfg (.event 0x1000013948) = .instr (.edgeLo 80200) ∧
    wellTimedTrace 0 ⟨0, some 0⟩ silent 9000 a9 = true := by decide
theorem test_witness_SilenceAfterAnEdge_between : LeavesTimer a9.cfg (.word 0x8000000000) := by
  intro i h
  cases h
  simp

/-- The minute goes backwards, the year wraps from 99 to 0, the hour, day and month stay. -/
def wrapped : State := { live with cbEn := true, prev := ⟨99, 1, 1, 0, 0, 59, 0, 0⟩, cur := ⟨0, 1, 1, 0, 0, 0, 0, 0⟩ }

/-- Every field kind chosen alone, and none. -/
theorem test_witness_FieldKinds : wrapped.cbEn = true ∧ (∀ k ∈ ([1, 2, 4, 8, 16, 0] : List KindMask), k.getLsbD 5 = false) ∧
    ([1, 2, 4, 8, 16, 0] : List KindMask).map (fun k => (next (exec .dispatch { wrapped with subKinds := k })).map fun t => t.ports.irq) =
      [some true, some false, some false, some false, some true, some false] := by decide
theorem test_witness_FieldKinds_others : SameFiveFields ⟨99, 1, 1, 5, 0, 59, 58, 7⟩ wrapped.prev ∧
    SameFiveFields ⟨0, 1, 1, 6, 0, 0, 59, 8⟩ wrapped.cur := by decide

/-- Both markers and a bit of every field flipped. -/
theorem test_witness_FlagsAreRead : let t := [0, 20, 21, 29, 36, 42, 45, 50, 58].foldl flipAt ta
    t ≠ ta ∧ ∀ i < 20, 1 ≤ i → t.getD i .zero = ({ live with lt := ta } : State).lt.getD i .zero := by decide

/-! Well-timed traces (R153). -/

/-- A `TIMEOUT` a millisecond early, one a millisecond late, one after the expiry, none at all: none of these is well-timed. -/
theorem test_wellTimed_refused :
    wellTimedTrace 0 ⟨0, some 0⟩ [⟨3000, .word 0x1000013948⟩, ⟨6499, .word 0x2000000000⟩] 6499 a9 = false ∧
    wellTimedTrace 0 ⟨0, some 0⟩ [⟨3000, .word 0x1000013948⟩, ⟨6501, .word 0x2000000000⟩] 6501 a9 = false ∧
    wellTimedTrace 0 ⟨0, some 0⟩ (silent ++ [⟨10000, .word 0x2000000000⟩]) 10000 a9 = false ∧
    wellTimedTrace 0 ⟨0, some 0⟩ [⟨3000, .word 0x1000013948⟩] 6501 a9 = false := by decide
/-- After `STOP` no timer runs, and an edge that is ignored arms none. -/
theorem test_wellTimed_stopped : wellTimedTrace 0 ⟨0, some 0⟩ [⟨100, .word 0x4000000000⟩, ⟨90000, .word 0x1100001388⟩] 99999 live = true := by
  decide
/-- Two processed edges 4000 ms apart: wrong with nothing between, or with an edge ignored while stopped between; right with a `TIMEOUT`. -/
theorem test_silenceTimed :
    silenceTimed none [.word 0x1100000000, .word 0x1000000FA0] live = false ∧
    silenceTimed none [.word 0x1100000000, .word 0x4000000000, .word 0x10000007D0, .word 0x3000000000, .word 0x1000000FA0] live = false ∧
    silenceTimed none [.word 0x1100000000, .word 0x2000000000, .word 0x1000000FA0] live = true := by decide
/-- Edges that are ignored are bound by nothing. -/
theorem test_silenceTimed_ignored : silenceTimed none [.word 0x1100000000, .word 0x1000000FA0] .reset = true := by decide

end Sys2Proof.Tests
end

section
/-! The Pulse Classifier (R110): the preimage of each class, and what `CLASSIFY` as an operation changes. -/

namespace Sys2Proof.Machine

open Claims

/-! How an operation begins and reports. -/

/-- The two spellings of quiet outputs, the model's and the statements', agree (log 4). -/
theorem State.beginOp_eq_quiet (s : State) : s.beginOp = { s with ports := quietPorts s } := rfl

theorem exec_classify (d : Duration) (s : State) : exec (.classify d) s = execClassify d s := rfl

/-- R110, "no side effects": beside the class on its port, only the outputs of the operation before are gone. -/
theorem execClassify_frame (d : Duration) (s : State) :
    execClassify d s = .next { s with ports := { quietPorts s with cls := some (classifyPulse s.cfg d) } } := by
  rw [execClassify, State.beginOp_eq_quiet, State.reportClass]

/-! The preimage of each class under any configuration, overlapping and empty ranges included (R111). -/

section
variable (c : Config) (d : Duration)

/-- The three branches, with what the order of the tests adds to each (R111 a). -/
theorem classifyPulse_cases :
    (inrange d c.falseLo c.falseHi = true ∧ classifyPulse c d = .zero) ∨
    (¬inrange d c.falseLo c.falseHi = true ∧ inrange d c.trueLo c.trueHi = true ∧ classifyPulse c d = .one) ∨
    (¬inrange d c.falseLo c.falseHi = true ∧ ¬inrange d c.trueLo c.trueHi = true ∧ classifyPulse c d = .invalid) := by
  unfold classifyPulse
  by_cases hf : inrange d c.falseLo c.falseHi = true
  · simp [hf]
  · by_cases ht : inrange d c.trueLo c.trueHi = true <;> simp [hf, ht]

theorem classifyPulse_eq_zero_iff :
    classifyPulse c d = .zero ↔ c.falseLo.toNat ≤ d.toNat ∧ d.toNat ≤ c.falseHi.toNat := by
  rw [← inrange_iff]
  obtain ⟨hf, hk⟩ | ⟨hf, -, hk⟩ | ⟨hf, -, hk⟩ := classifyPulse_cases c d <;> simp [hf, hk]

theorem classifyPulse_eq_one_iff :
    classifyPulse c d = .one ↔
      ¬(c.falseLo.toNat ≤ d.toNat ∧ d.toNat ≤ c.falseHi.toNat) ∧ c.trueLo.toNat ≤ d.toNat ∧ d.toNat ≤ c.trueHi.toNat := by
  rw [← inrange_iff, ← inrange_iff]
  obtain ⟨hf, hk⟩ | ⟨hf, ht, hk⟩ | ⟨hf, ht, hk⟩ := classifyPulse_cases c d <;> simp [*]

theorem classifyPulse_eq_invalid_iff :
    classifyPulse c d = .invalid ↔
      ¬(c.falseLo.toNat ≤ d.toNat ∧ d.toNat ≤ c.falseHi.toNat) ∧ ¬(c.trueLo.toNat ≤ d.toNat ∧ d.toNat ≤ c.trueHi.toNat) := by
  rw [← inrange_iff, ← inrange_iff]
  obtain ⟨hf, hk⟩ | ⟨hf, ht, hk⟩ | ⟨hf, ht, hk⟩ := classifyPulse_cases c d <;> simp [*]

end

/-! The preimages under the default ranges (R5, R113): there the ranges are disjoint, so the order of the tests does not show. -/

section
variable (d : Duration)

theorem classifyPulse_standard_eq_zero_iff :
    classifyPulse .standard d = .zero ↔ 50 ≤ d.toNat ∧ d.toNat ≤ 130 :=
  classifyPulse_eq_zero_iff .standard d

theorem classifyPulse_standard_eq_one_iff :
    classifyPulse .standard d = .one ↔ 150 ≤ d.toNat ∧ d.toNat ≤ 230 := by
  have h : classifyPulse .standard d = .one ↔ ¬(50 ≤ d.toNat ∧ d.toNat ≤ 130) ∧ 150 ≤ d.toNat ∧ d.toNat ≤ 230 :=
    classifyPulse_eq_one_iff .standard d
  exact h.trans (by omega)

theorem classifyPulse_standard_eq_invalid_iff :
    classifyPulse .standard d = .invalid ↔ d.toNat < 50 ∨ (130 < d.toNat ∧ d.toNat < 150) ∨ 230 < d.toNat := by
  have h : classifyPulse .standard d = .invalid ↔ ¬(50 ≤ d.toNat ∧ d.toNat ≤ 130) ∧ ¬(150 ≤ d.toNat ∧ d.toNat ≤ 230) :=
    classifyPulse_eq_invalid_iff .standard d
  exact h.trans (by omega)

end

/-- Settles O11: the class is `classifyPulse`, whose preimages are the ranges, and the operation's frame is `execClassify_frame`. -/
theorem classifyFollowsTheRanges : Obligations.ClassifyFollowsTheRanges := by
  intro d s
  refine ⟨classifyPulse s.cfg d, ?frame, classifyPulse_eq_zero_iff .., classifyPulse_eq_one_iff .., classifyPulse_eq_invalid_iff .., ?standard⟩
  case frame => rw [exec_classify, execClassify_frame]
  case standard =>
    intro hcfg
    rw [hcfg]
    exact ⟨classifyPulse_standard_eq_zero_iff d, classifyPulse_standard_eq_one_iff d, classifyPulse_standard_eq_invalid_iff d⟩

end Sys2Proof.Machine
end

section
/-! The Bit-Field Decoder (R164 to R170): slices of a telegram by index, the parity of a group and the weighted sum of a field in the values
of its bits, and what `FIELDS` answers with them. -/

namespace Sys2Proof.Machine

open Claims

/-! A telegram's bits and slices by index (R11, R12). -/

/-- The two spellings of a bit's value, the model's and the statements', agree (R11). -/
theorem bitValue_bitAt (t : List Bit) (i : Nat) : bitValue (bitAt t i) = val t i := by
  unfold bitAt val
  cases t.getD i .zero <;> rfl

theorem val_eq_zero_iff (t : List Bit) (i : Nat) : val t i = 0 ↔ bitAt t i = .zero := by
  rw [← bitValue_bitAt]
  cases bitAt t i <;> decide

theorem val_eq_one_iff (t : List Bit) (i : Nat) : val t i = 1 ↔ bitAt t i = .one := by
  rw [← bitValue_bitAt]
  cases bitAt t i <;> decide

section
variable {t : List Bit} {a b : Nat} (hb : b < t.length)
include hb

theorem slice_eq_map_bitAt : slice t a b = (List.range (b + 1 - a)).map fun k => bitAt t (a + k) := by
  apply List.ext_getElem
  · simp only [slice, List.length_take, List.length_drop, List.length_map, List.length_range]
    omega
  · intro k hk _
    have hlt : a + k < t.length := by
      simp only [slice, List.length_take, List.length_drop] at hk
      omega
    simp [slice, bitAt, hlt]

theorem popcount_slice : popcount (slice t a b) = onesBetween t a b := by
  simp only [popcount, onesBetween, slice_eq_map_bitAt hb, List.map_map, Function.comp_def, bitValue_bitAt]

/-- R92 on a group of data bits `a` to `b` with its parity bit at `p`. -/
theorem parityOk_slice_iff (p : Nat) :
    parityOk (slice t a b) (bitAt t p) = true ↔ (onesBetween t a b + val t p) % 2 = 0 := by
  rw [parityOk, popcount_slice hb, bitValue_bitAt, beq_iff_eq]

/-- R88: the weight of a bit follows its place in the field. -/
theorem bcd_slice :
    bcd (slice t a b) = (List.zipWith (fun w k => w * val t (a + k)) weights (List.range (b + 1 - a))).sum := by
  simp only [bcd, slice_eq_map_bitAt hb, List.zipWith_map_right, bitValue_bitAt]

end

/-! The first two groups and their fields (R91, R164, R165). -/

/-- R169, with the verdict named by the proposition it decides. -/
theorem guarded_of_iff {ok : Bool} {P : Prop} [Decidable P] (h : ok = true ↔ P) (v : Int) :
    guarded ok v = if P then v else 999 := by
  simp only [guarded, sentinel, h]

section
variable {t : List Bit} (hlen : t.length = 59)
include hlen

theorem parityMinute_iff : parityMinute t = true ↔ (onesBetween t 21 27 + val t 28) % 2 = 0 :=
  parityOk_slice_iff (by omega) 28

theorem parityHour_iff : parityHour t = true ↔ (onesBetween t 29 34 + val t 35) % 2 = 0 :=
  parityOk_slice_iff (by omega) 35

theorem bcd_minuteBits : bcd (slice t 21 27) =
    val t 21 + 2 * val t 22 + 4 * val t 23 + 8 * val t 24 + 10 * val t 25 + 20 * val t 26 + 40 * val t 27 := by
  rw [bcd_slice (by omega)]
  simp [weights, List.range_succ, Nat.add_assoc]

theorem bcd_hourBits : bcd (slice t 29 34) =
    val t 29 + 2 * val t 30 + 4 * val t 31 + 8 * val t 32 + 10 * val t 33 + 20 * val t 34 := by
  rw [bcd_slice (by omega)]
  simp [weights, List.range_succ, Nat.add_assoc]

theorem extractFields_minute : (extractFields t).minute =
    if (onesBetween t 21 27 + val t 28) % 2 = 0 then
      ((val t 21 + 2 * val t 22 + 4 * val t 23 + 8 * val t 24 + 10 * val t 25 + 20 * val t 26 + 40 * val t 27 : Nat) : Int) else 999 := by
  rw [← bcd_minuteBits hlen]
  exact guarded_of_iff (parityMinute_iff hlen) _

theorem extractFields_hour : (extractFields t).hour =
    if (onesBetween t 29 34 + val t 35) % 2 = 0 then
      ((val t 29 + 2 * val t 30 + 4 * val t 31 + 8 * val t 32 + 10 * val t 33 + 20 * val t 34 : Nat) : Int) else 999 := by
  rw [← bcd_hourBits hlen]
  exact guarded_of_iff (parityHour_iff hlen) _

/-- R161, R162: with good length and markers `FIELDS` does not abort. -/
theorem fieldsOf_of_framed (h0 : val t 0 = 0) (h20 : val t 20 = 1) :
    fieldsOf t = .fields (extractFields t) (parityMinute t) (parityHour t) (parityDate t) := by
  rw [val_eq_zero_iff] at h0
  rw [val_eq_one_iff] at h20
  obtain ⟨hne, -⟩ | ⟨-, hm0, -⟩ | ⟨-, -, hm20, -⟩ | ⟨-, -, -, hf⟩ := fieldsOf_cases t
  · exact absurd hlen hne
  · simp [h0] at hm0
  · simp [h20] at hm20
  · exact hf

end

/-- Settles O55: `FIELDS` answers `extractFields`, whose minute and hour are the weighted sums guarded by P1 and P2. -/
theorem minuteAndHourFollowTheirGroups : Obligations.MinuteAndHourFollowTheirGroups := by
  intro t hlen h0 h20
  exact ⟨_, _, _, _, fieldsOf_of_framed hlen h0 h20, extractFields_minute hlen, extractFields_hour hlen⟩

end Sys2Proof.Machine
end

section
/-! The Change/Event Dispatcher (R190, R191, R193): the bits of a mask by kind, the pulse as a subscribed kind that is met, and what the field
kinds compare. -/

namespace Sys2Proof.Machine

open Claims

/-! Masks by kind (R31): each kind has one bit of the six, and each bit is a kind's. -/

theorem kindIndex_lt (k : Kind) : kindIndex k < 6 := by
  cases k <;> decide

theorem kindIndex_inj {j k : Kind} : kindIndex j = kindIndex k → j = k := by
  cases j <;> cases k <;> decide

theorem exists_kindIndex_eq {i : Nat} (h : i < 6) : ∃ k, kindIndex k = i := by
  match i, h with
  | 0, _ => exact ⟨.minute, rfl⟩
  | 1, _ => exact ⟨.hour, rfl⟩
  | 2, _ => exact ⟨.day, rfl⟩
  | 3, _ => exact ⟨.month, rfl⟩
  | 4, _ => exact ⟨.year, rfl⟩
  | 5, _ => exact ⟨.dstAnnounced, rfl⟩

theorem mem_allKinds (k : Kind) : k ∈ allKinds := by
  cases k <;> decide

theorem exists_kind_iff (P : Kind → Prop) :
    (∃ k, P k) ↔ P .minute ∨ P .hour ∨ P .day ∨ P .month ∨ P .year ∨ P .dstAnnounced := by
  constructor
  · rintro ⟨k, h⟩
    cases k <;> simp [h]
  · rintro (h | h | h | h | h | h) <;> exact ⟨_, h⟩

theorem getLsbD_kindMask (k j : Kind) : (kindMask k).getLsbD (kindIndex j) = true ↔ k = j := by
  have hj := kindIndex_lt j
  simp only [kindMask, BitVec.getLsbD_ofNat, hj, decide_true, Bool.true_and, Nat.testBit_two_pow, decide_eq_true_eq]
  exact ⟨kindIndex_inj, congrArg kindIndex⟩

/-- Two masks meet iff they share a kind. -/
theorem and_ne_zero_iff_exists_kind (m n : KindMask) :
    m &&& n ≠ 0 ↔ ∃ k, m.getLsbD (kindIndex k) = true ∧ n.getLsbD (kindIndex k) = true := by
  constructor
  · intro hne
    by_contra hno
    refine hne (BitVec.eq_of_getLsbD_eq fun i hi => ?_)
    obtain ⟨k, rfl⟩ := exists_kindIndex_eq hi
    have hk : ¬(m.getLsbD (kindIndex k) = true ∧ n.getLsbD (kindIndex k) = true) := fun h => hno ⟨k, h⟩
    simpa using hk
  · rintro ⟨k, hm, hn⟩ hz
    have hk : (m &&& n).getLsbD (kindIndex k) = true := by simp [hm, hn]
    simp [hz] at hk

/-! The mask of met conditions (R190 steps 1 and 2). -/

/-- Setting the bits of the kinds of a list that satisfy `p`. -/
theorem getLsbD_foldl_kindMask (p : Kind → Bool) (l : List Kind) (m : KindMask) (j : Kind) :
    (l.foldl (fun m k => if p k then m ||| kindMask k else m) m).getLsbD (kindIndex j) = true ↔
      m.getLsbD (kindIndex j) = true ∨ (j ∈ l ∧ p j = true) := by
  induction l generalizing m with
  | nil => simp
  | cons k l ih =>
    rw [List.foldl_cons, ih, List.mem_cons]
    by_cases hp : p k = true
    · rw [if_pos hp, BitVec.getLsbD_or, Bool.or_eq_true, getLsbD_kindMask]
      grind
    · rw [if_neg hp]
      grind

theorem getLsbD_metMask (prev cur : DateTime) (a latch : Bit) (k : Kind) :
    (metMask prev cur a latch).getLsbD (kindIndex k) = true ↔ kindMet prev cur a latch k = true := by
  rw [metMask, getLsbD_foldl_kindMask]
  simp [mem_allKinds]

section
variable {p p' c c' : DateTime} (hp : SameFiveFields p p') (hc : SameFiveFields c c') (a latch : Bit)
include hp hc

/-- R191: no kind reads the weekday, the second or the subsecond. -/
theorem kindMet_congr (k : Kind) : kindMet p c a latch k = kindMet p' c' a latch k := by
  obtain ⟨hpMinute, hpHour, hpDay, hpMonth, hpYear⟩ := hp
  obtain ⟨hcMinute, hcHour, hcDay, hcMonth, hcYear⟩ := hc
  cases k with
  | minute => simp only [kindMet, hpMinute, hcMinute]
  | hour => simp only [kindMet, hpHour, hcHour]
  | day => simp only [kindMet, hpDay, hcDay]
  | month => simp only [kindMet, hpMonth, hcMonth]
  | year => simp only [kindMet, hpYear, hcYear]
  | dstAnnounced => rfl

theorem metMask_congr : metMask p c a latch = metMask p' c' a latch := by
  simp only [metMask, kindMet_congr hp hc]

end

/-! The pulse (R190 step 3, R193). -/

theorem exec_dispatch (s : State) : exec .dispatch s = .next s.beginOp.dispatchChanges := rfl

theorem dispatch_irq (s : State) : s.beginOp.dispatchChanges.ports.irq = irqDue s.cbEn s.subKinds s.met := rfl

theorem irqDue_met_iff (s : State) :
    irqDue s.cbEn s.subKinds s.met = true ↔
      s.cbEn = true ∧ ∃ k, s.subKinds.getLsbD (kindIndex k) = true ∧ kindMet s.prev s.cur s.announcement s.dstLatch k = true := by
  simp only [irqDue, Bool.and_eq_true, bne_iff_ne, and_ne_zero_iff_exists_kind, State.met, getLsbD_metMask, and_comm]

/-- A choice among the six kinds, with the condition of each field kind written out (R191). -/
theorem exists_subscribed_kindMet_iff (kinds : KindMask) (prev cur : DateTime) (a latch : Bit) :
    (∃ k, kinds.getLsbD (kindIndex k) = true ∧ kindMet prev cur a latch k = true) ↔
      (kinds.getLsbD 0 = true ∧ prev.minute ≠ cur.minute) ∨ (kinds.getLsbD 1 = true ∧ prev.hour ≠ cur.hour) ∨
      (kinds.getLsbD 2 = true ∧ prev.day ≠ cur.day) ∨ (kinds.getLsbD 3 = true ∧ prev.month ≠ cur.month) ∨
      (kinds.getLsbD 4 = true ∧ prev.year ≠ cur.year) ∨ (kinds.getLsbD 5 = true ∧ dstRise a latch = true) := by
  simp only [exists_kind_iff, kindIndex, kindMet, bne_iff_ne]

/-- Settles O54: without the announcement kind a subscribed kind that is met is one of the five comparisons, and the mask of met conditions
does not depend on the other fields or on `valid`. -/
theorem fieldKindsCompareTheirFields : Obligations.FieldKindsCompareTheirFields := by
  refine ⟨fun s kinds hcb hdst => ?comparisons, fun s p c b hp hc => ?others⟩
  case comparisons =>
    refine ⟨_, exec_dispatch _, ?_⟩
    rw [dispatch_irq, irqDue_met_iff, exists_subscribed_kindMet_iff]
    simp only [hcb, hdst, true_and, Bool.false_eq_true, false_and, or_false]
  case others =>
    refine ⟨_, _, exec_dispatch _, exec_dispatch _, ?_⟩
    rw [dispatch_irq, dispatch_irq]
    exact congrArg (irqDue s.cbEn s.subKinds) (metMask_congr hp hc s.announcement s.dstLatch)

end Sys2Proof.Machine
end

section
/-! The encoding (R86, R96, R97, R99): decoder and encoder invert each other, the rows of the operation table, the reserved words. -/

namespace Sys2Proof

open Machine Claims

/-! The decoder on a word given by its three fields. -/

theorem decode_event (c : Config) (w : EventWord) : decode c (.event w) = decodeEvent c w := rfl

section
variable (c : Config) (a : BitVec 4) (p : BitVec 32)

theorem decodeEvent_edge : decodeEvent c (eventWord 1 a p) = decodeEdge c a p := by simp [decodeEvent]
theorem decodeEvent_timeout : decodeEvent c (eventWord 2 a p) = decodeBare .timeout a p := by simp [decodeEvent]
theorem decodeEvent_start : decodeEvent c (eventWord 3 a p) = decodeBare .start a p := by simp [decodeEvent]
theorem decodeEvent_stop : decodeEvent c (eventWord 4 a p) = decodeBare .stop a p := by simp [decodeEvent]
theorem decodeEvent_subscribe : decodeEvent c (eventWord 5 a p) = decodeSubscribe a p := by simp [decodeEvent]
theorem decodeEvent_getLastSignal : decodeEvent c (eventWord 6 a p) = decodeBare .getLastSignal a p := by simp [decodeEvent]
theorem decodeEvent_getDatetime : decodeEvent c (eventWord 7 a p) = decodeGetDatetime a p := by simp [decodeEvent]
theorem decodeEvent_getStatus : decodeEvent c (eventWord 8 a p) = decodeBare .getStatus a p := by simp [decodeEvent]

end

theorem decodeEdge_hi {c : Config} {p : BitVec 32} (h : fitsTimestamp c p = true) : decodeEdge c 1 p = .instr (.edgeHi p) := by
  simp [decodeEdge, h]

theorem decodeEdge_lo {c : Config} {p : BitVec 32} (h : fitsTimestamp c p = true) : decodeEdge c 0 p = .instr (.edgeLo p) := by
  simp [decodeEdge, h]

theorem decodeBare_zero (i : Instr) : decodeBare i 0 0 = .instr i := rfl

/-! The payload of `SUBSCRIBE` (R98): mask, callback bit, zeros. -/

/-- The payload `encode` gives a `SUBSCRIBE`. -/
def subscribePayload (kinds : KindMask) (cb : Bool) : BitVec 32 := (0 : BitVec 25) ++ BitVec.ofBool cb ++ kinds

theorem getLsbD_subscribePayload (kinds : KindMask) (cb : Bool) (i : Nat) :
    (subscribePayload kinds cb).getLsbD i = if i < 6 then kinds.getLsbD i else decide (i = 6) && cb := by
  have h : (subscribePayload kinds cb).getLsbD i = (((0 : BitVec 25) ++ BitVec.ofBool cb) ++ kinds : BitVec (25 + 1 + 6)).getLsbD i := rfl
  rw [h, BitVec.getLsbD_append, BitVec.getLsbD_append]
  split
  · rfl
  · by_cases h6 : i = 6
    · subst h6; simp
    · rw [if_neg (by omega)]; simp [h6]

theorem decodeSubscribe_subscribePayload (kinds : KindMask) (cb : Bool) :
    decodeSubscribe 0 (subscribePayload kinds cb) = .instr (.subscribe kinds cb) := by
  have hrest : (subscribePayload kinds cb).extractLsb' 7 25 = 0 := by
    apply BitVec.eq_of_getLsbD_eq
    intro i hi
    simp [BitVec.getLsbD_extractLsb', getLsbD_subscribePayload, show ¬(7 + i < 6) by omega, show ¬(7 + i = 6) by omega]
  have hkinds : (subscribePayload kinds cb).extractLsb' 0 6 = kinds := by
    apply BitVec.eq_of_getLsbD_eq
    intro i hi
    simp [getLsbD_subscribePayload, hi]
  have hcb : (subscribePayload kinds cb).getLsbD 6 = cb := getLsbD_subscribePayload kinds cb 6
  rw [decodeSubscribe, if_neg (not_not_intro rfl), if_neg (not_not_intro hrest), hkinds, hcb]

theorem subscribePayload_fields {p : BitVec 32} (h : p.extractLsb' 7 25 = 0) :
    subscribePayload (p.extractLsb' 0 6) (p.getLsbD 6) = p := by
  apply BitVec.eq_of_getLsbD_eq
  intro i hi
  rw [getLsbD_subscribePayload]
  split
  next h6 => simp [h6]
  next h6 =>
    by_cases he : i = 6
    · subst he; simp
    · have hbit : (p.extractLsb' 7 25).getLsbD (i - 7) = false := by rw [h]; simp
      rw [BitVec.getLsbD_extractLsb', show 7 + (i - 7) = i by omega, decide_eq_true (by omega), Bool.true_and] at hbit
      rw [hbit, decide_eq_false he, Bool.false_and]

/-! The payload of `GET_DATETIME` (R98): one bit, then zeros. -/

/-- The payload `encode` gives a `GET_DATETIME`. -/
def datetimePayload (ws : Bool) : BitVec 32 := (0 : BitVec 31) ++ BitVec.ofBool ws

theorem getLsbD_datetimePayload (ws : Bool) (i : Nat) : (datetimePayload ws).getLsbD i = (decide (i = 0) && ws) := by
  have h : (datetimePayload ws).getLsbD i = ((0 : BitVec 31) ++ BitVec.ofBool ws : BitVec (31 + 1)).getLsbD i := rfl
  rw [h, BitVec.getLsbD_append]
  by_cases h0 : i = 0
  · subst h0; simp
  · rw [if_neg (by omega)]; simp [h0]

theorem decodeGetDatetime_datetimePayload (ws : Bool) : decodeGetDatetime 0 (datetimePayload ws) = .instr (.getDatetime ws) := by
  cases ws <;> decide

theorem datetimePayload_fields {p : BitVec 32} (h : p.extractLsb' 1 31 = 0) : datetimePayload (p.getLsbD 0) = p := by
  apply BitVec.eq_of_getLsbD_eq
  intro i hi
  rw [getLsbD_datetimePayload]
  by_cases h0 : i = 0
  · subst h0; simp
  · have hbit : (p.extractLsb' 1 31).getLsbD (i - 1) = false := by rw [h]; simp
    rw [BitVec.getLsbD_extractLsb', show 1 + (i - 1) = i by omega, decide_eq_true (by omega), Bool.true_and] at hbit
    rw [hbit, decide_eq_false h0, Bool.false_and]

/-- Settles O2: each row's word has the row's fields, and the decoder of that row reads the operands back. -/
theorem decodeInvertsEncode : Obligations.DecodeInvertsEncode := by
  intro c i w hwf he
  cases i with
  | edgeHi ts => cases he; rw [decode_event, decodeEvent_edge, decodeEdge_hi hwf]
  | edgeLo ts => cases he; rw [decode_event, decodeEvent_edge, decodeEdge_lo hwf]
  | timeout => cases he; rw [decode_event, decodeEvent_timeout, decodeBare_zero]
  | start => cases he; rw [decode_event, decodeEvent_start, decodeBare_zero]
  | stop => cases he; rw [decode_event, decodeEvent_stop, decodeBare_zero]
  | subscribe kinds cb => cases he; rw [decode_event, decodeEvent_subscribe]; exact decodeSubscribe_subscribePayload kinds cb
  | getLastSignal => cases he; rw [decode_event, decodeEvent_getLastSignal, decodeBare_zero]
  | getDatetime ws => cases he; rw [decode_event, decodeEvent_getDatetime]; exact decodeGetDatetime_datetimePayload ws
  | getStatus => cases he; rw [decode_event, decodeEvent_getStatus, decodeBare_zero]
  | telegram f =>
    cases he
    simp only [Instr.wf, Bool.and_eq_true, Bool.not_eq_true'] at hwf
    simp only [decode, decodeFrame, hwf, Bool.false_eq_true, if_false, Bool.true_eq_false]
  | classify d => cases he
  | decode t => cases he
  | dispatch => cases he

/-- What an event word decodes to is spelled by it (R97). -/
theorem encode_of_decodeEvent {c : Config} {w : EventWord} {i : Instr} (h : decodeEvent c w = .instr i) :
    encode i = some (.event w) ∧ i.wf c = true := by
  have hw := eventWord_fields w
  obtain ⟨hop, hfit, ⟨harg, rfl⟩ | ⟨harg, rfl⟩⟩ | ⟨harg, hp, hrow⟩ | ⟨hop, harg, hp, rfl⟩ | ⟨hop, harg, hp, rfl⟩ :=
    decodeEvent_instr h
  · rw [hop, harg] at hw
    exact ⟨congrArg (some ∘ CodeWord.event) hw, hfit⟩
  · rw [hop, harg] at hw
    exact ⟨congrArg (some ∘ CodeWord.event) hw, hfit⟩
  · rw [harg, hp] at hw
    obtain ⟨hop, rfl⟩ | ⟨hop, rfl⟩ | ⟨hop, rfl⟩ | ⟨hop, rfl⟩ | ⟨hop, rfl⟩ := hrow <;> rw [hop] at hw <;>
      exact ⟨congrArg (some ∘ CodeWord.event) hw, rfl⟩
  · rw [hop, harg, ← subscribePayload_fields hp] at hw
    exact ⟨congrArg (some ∘ CodeWord.event) hw, rfl⟩
  · rw [hop, harg, ← datetimePayload_fields hp] at hw
    exact ⟨congrArg (some ∘ CodeWord.event) hw, rfl⟩

theorem decodeFrame_instr {w : FrameWord} {i : Instr} (h : decodeFrame w = .instr i) :
    w.getLsbD 0 = false ∧ w.getLsbD 20 = true ∧ i = .telegram w := by
  unfold decodeFrame at h
  split at h
  · cases h
  · split at h
    · cases h
    · cases h; simp_all

/-- Settles O3, by the kind of word. -/
theorem encodeInvertsDecode : Obligations.EncodeInvertsDecode := by
  intro c w i h
  cases w with
  | event w => exact encode_of_decodeEvent h
  | frame w =>
    obtain ⟨h0, h20, rfl⟩ := decodeFrame_instr h
    exact ⟨rfl, by simp only [Instr.wf, h0, h20, Bool.not_false, Bool.and_self]⟩

/-! The rows of the operation table (R97). -/

/-- Masking a word masks its fields. -/
theorem eventWord_and (op a op' a' : BitVec 4) (p p' : BitVec 32) :
    eventWord op a p &&& eventWord op' a' p' = eventWord (op &&& op') (a &&& a') (p &&& p') := by
  apply BitVec.eq_of_getLsbD_eq
  intro i hi
  simp only [BitVec.getLsbD_and, getLsbD_eventWord]
  split
  · rfl
  · split <;> rfl

theorem eventWord_inj {op a op' a' : BitVec 4} {p p' : BitVec 32} :
    eventWord op a p = eventWord op' a' p' ↔ op = op' ∧ a = a' ∧ p = p' := by
  constructor
  · intro h
    have hop := congrArg opField h
    have harg := congrArg argField h
    have hp := congrArg payload h
    simp only [opField_eventWord, argField_eventWord, payload_eventWord] at hop harg hp
    exact ⟨hop, harg, hp⟩
  · rintro ⟨rfl, rfl, rfl⟩; rfl

/-- Matching a row whose mask fixes the whole of `op` and `a`. -/
theorem and_eventWord_eq_iff (w : EventWord) (op a : BitVec 4) (m p : BitVec 32) :
    w &&& eventWord 15 15 m = eventWord op a p ↔ opField w = op ∧ argField w = a ∧ payload w &&& m = p := by
  have h15 (x : BitVec 4) : x &&& 15 = x := BitVec.and_allOnes
  conv_lhs => rw [← eventWord_fields w]
  rw [eventWord_and, eventWord_inj, h15, h15]

/-! Payloads below a power of two: the three ways the model and the table say that the high bits are 0. -/

theorem toNat_lt_two_pow_iff_getLsbD {k : Nat} (p : BitVec k) (n : Nat) : p.toNat < 2 ^ n ↔ ∀ i, n ≤ i → p.getLsbD i = false := by
  constructor
  · intro h i hi
    exact Nat.testBit_lt_two_pow (Nat.lt_of_lt_of_le h (Nat.pow_le_pow_right (by omega) hi))
  · exact Nat.lt_pow_two_of_testBit _

theorem and_highMask_eq_zero_iff (p : BitVec 32) (n : Nat) : p &&& (BitVec.allOnes 32 <<< n) = 0 ↔ p.toNat < 2 ^ n := by
  have hbit (i : Nat) (hi : i < 32) : (p &&& (BitVec.allOnes 32 <<< n)).getLsbD i = (p.getLsbD i && decide (n ≤ i)) := by
    have hlt : i - n < 32 := by omega
    rw [BitVec.getLsbD_and, BitVec.getLsbD_shiftLeft, BitVec.getLsbD_allOnes, decide_eq_true hi, decide_eq_true hlt]
    by_cases h : i < n
    · simp [h]
    · simp [h, Nat.not_lt.1 h]
  rw [toNat_lt_two_pow_iff_getLsbD]
  constructor
  · intro h i hni
    by_cases hi : i < 32
    · have hz : (p &&& (BitVec.allOnes 32 <<< n)).getLsbD i = false := by rw [h]; exact BitVec.getLsbD_zero
      rwa [hbit i hi, decide_eq_true hni, Bool.and_true] at hz
    · exact BitVec.getLsbD_of_ge p i (by omega)
  · intro h
    apply BitVec.eq_of_getLsbD_eq
    intro i hi
    rw [hbit i hi]
    by_cases hni : n ≤ i
    · rw [h i hni]; exact BitVec.getLsbD_zero.symm
    · rw [decide_eq_false hni, Bool.and_false]; exact BitVec.getLsbD_zero.symm

theorem extractLsb'_high_eq_zero_iff (p : BitVec 32) {n k : Nat} (hk : n + k = 32) : p.extractLsb' n k = 0 ↔ p.toNat < 2 ^ n := by
  have hdiv : p.toNat / 2 ^ n < 2 ^ k := Nat.div_lt_of_lt_mul (by rw [← Nat.pow_add, hk]; exact p.isLt)
  rw [← BitVec.toNat_inj, BitVec.extractLsb'_toNat, Nat.shiftRight_eq_div_pow, Nat.mod_eq_of_lt hdiv]
  exact Nat.div_eq_zero_iff_lt (Nat.two_pow_pos n)

theorem eq_zero_iff_toNat_lt_one (p : BitVec 32) : p = 0 ↔ p.toNat < 2 ^ 0 := by
  rw [← BitVec.toNat_inj]
  exact Nat.lt_one_iff.symm

/-! The nine rows by the fields they fix. -/

/-- What a word's fields are when it matches the row of a mnemonic (R97). -/
def RowFields (w : EventWord) (name : String) : Prop :=
  (name = "EDGE.HI" ∧ opField w = 1 ∧ argField w = 1) ∨
  (name = "EDGE.LO" ∧ opField w = 1 ∧ argField w = 0) ∨
  (name = "TIMEOUT" ∧ opField w = 2 ∧ argField w = 0 ∧ (payload w).toNat < 2 ^ 0) ∨
  (name = "START" ∧ opField w = 3 ∧ argField w = 0 ∧ (payload w).toNat < 2 ^ 0) ∨
  (name = "STOP" ∧ opField w = 4 ∧ argField w = 0 ∧ (payload w).toNat < 2 ^ 0) ∨
  (name = "SUBSCRIBE" ∧ opField w = 5 ∧ argField w = 0 ∧ (payload w).toNat < 2 ^ 7) ∨
  (name = "GET_LAST_SIGNAL" ∧ opField w = 6 ∧ argField w = 0 ∧ (payload w).toNat < 2 ^ 0) ∨
  (name = "GET_DATETIME" ∧ opField w = 7 ∧ argField w = 0 ∧ (payload w).toNat < 2 ^ 1) ∨
  (name = "GET_STATUS" ∧ opField w = 8 ∧ argField w = 0 ∧ (payload w).toNat < 2 ^ 0)

/-- A mask that fixes `op` and `a` only: the two edges. -/
theorem and_edgeMask_iff (w : EventWord) (op a : BitVec 4) :
    w &&& 0xFF00000000 = eventWord op a 0 ↔ opField w = op ∧ argField w = a := by
  have hmask : (0xFF00000000 : EventWord) = eventWord 15 15 0 := rfl
  rw [hmask, and_eventWord_eq_iff]
  simp

/-- A mask that fixes everything from payload bit `n` on. -/
theorem and_mask_iff {w mask : EventWord} {n : Nat} (hmask : mask = eventWord 15 15 (BitVec.allOnes 32 <<< n)) (op : BitVec 4) :
    w &&& mask = eventWord op 0 0 ↔ opField w = op ∧ argField w = 0 ∧ (payload w).toNat < 2 ^ n := by
  rw [hmask, and_eventWord_eq_iff, and_highMask_eq_zero_iff]

theorem exists_row_iff (w : EventWord) (name : String) :
    (∃ r ∈ eventRows, r.name = name ∧ w &&& r.mask = r.bits) ↔ RowFields w name := by
  have hbare (op : BitVec 4) := and_mask_iff (w := w) (mask := 0xFFFFFFFFFF) (n := 0) rfl op
  have hsubscribe := and_mask_iff (w := w) (mask := 0xFFFFFFFF80) (n := 7) rfl 5
  have hdatetime := and_mask_iff (w := w) (mask := 0xFFFFFFFFFE) (n := 1) rfl 7
  simp only [eventRows, RowFields, List.exists_mem_cons_iff, List.not_mem_nil, false_and, exists_false, or_false, eq_comm (b := name)]
  exact or_congr (and_congr_right' (and_edgeMask_iff w 1 1)) <| or_congr (and_congr_right' (and_edgeMask_iff w 1 0)) <|
    or_congr (and_congr_right' (hbare 2)) <| or_congr (and_congr_right' (hbare 3)) <| or_congr (and_congr_right' (hbare 4)) <|
    or_congr (and_congr_right' hsubscribe) <| or_congr (and_congr_right' (hbare 6)) <| or_congr (and_congr_right' hdatetime) <|
    and_congr_right' (hbare 8)

/-- With 32-bit timestamps every payload is one (R96). -/
theorem fitsTimestamp_of_tsW {c : Config} (h : c.tsW = 32) (p : BitVec 32) : fitsTimestamp c p = true := by
  have := p.isLt
  simpa [fitsTimestamp, h] using this

theorem decodeEvent_of_fields (c : Config) {w : EventWord} {op a : BitVec 4} (hop : opField w = op) (ha : argField w = a) :
    decodeEvent c w = decodeEvent c (eventWord op a (payload w)) := by
  rw [← hop, ← ha, eventWord_fields]

theorem rowFields_of_decodeEvent {c : Config} {w : EventWord} {i : Instr} (h : decodeEvent c w = .instr i) :
    RowFields w (mnemonic i) := by
  simp only [RowFields, ← eq_zero_iff_toNat_lt_one, ← extractLsb'_high_eq_zero_iff (payload w) (n := 7) (k := 25) rfl,
    ← extractLsb'_high_eq_zero_iff (payload w) (n := 1) (k := 31) rfl]
  obtain ⟨hop, -, ⟨ha, rfl⟩ | ⟨ha, rfl⟩⟩ | ⟨ha, hp, hrow⟩ | ⟨hop, ha, hp, rfl⟩ | ⟨hop, ha, hp, rfl⟩ := decodeEvent_instr h
  · simp [mnemonic, hop, ha]
  · simp [mnemonic, hop, ha]
  · obtain ⟨hop, rfl⟩ | ⟨hop, rfl⟩ | ⟨hop, rfl⟩ | ⟨hop, rfl⟩ | ⟨hop, rfl⟩ := hrow <;> simp [mnemonic, hop, ha, hp]
  · simp [mnemonic, hop, ha, hp]
  · simp [mnemonic, hop, ha, hp]

theorem decodeEvent_of_rowFields {c : Config} {w : EventWord} {name : String} (hc : c.tsW = 32) (h : RowFields w name) :
    ∃ i, decodeEvent c w = .instr i ∧ mnemonic i = name := by
  have hfit := fitsTimestamp_of_tsW hc (payload w)
  simp only [RowFields, ← eq_zero_iff_toNat_lt_one, ← extractLsb'_high_eq_zero_iff (payload w) (n := 7) (k := 25) rfl,
    ← extractLsb'_high_eq_zero_iff (payload w) (n := 1) (k := 31) rfl] at h
  obtain ⟨rfl, hop, ha⟩ | ⟨rfl, hop, ha⟩ | ⟨rfl, hop, ha, hp⟩ | ⟨rfl, hop, ha, hp⟩ | ⟨rfl, hop, ha, hp⟩ | ⟨rfl, hop, ha, hp⟩ |
    ⟨rfl, hop, ha, hp⟩ | ⟨rfl, hop, ha, hp⟩ | ⟨rfl, hop, ha, hp⟩ := h <;> rw [decodeEvent_of_fields c hop ha]
  · exact ⟨_, by rw [decodeEvent_edge, decodeEdge_hi hfit], rfl⟩
  · exact ⟨_, by rw [decodeEvent_edge, decodeEdge_lo hfit], rfl⟩
  · exact ⟨_, by rw [hp, decodeEvent_timeout, decodeBare_zero], rfl⟩
  · exact ⟨_, by rw [hp, decodeEvent_start, decodeBare_zero], rfl⟩
  · exact ⟨_, by rw [hp, decodeEvent_stop, decodeBare_zero], rfl⟩
  · exact ⟨_, by rw [← subscribePayload_fields hp, decodeEvent_subscribe, decodeSubscribe_subscribePayload], rfl⟩
  · exact ⟨_, by rw [hp, decodeEvent_getLastSignal, decodeBare_zero], rfl⟩
  · exact ⟨_, by rw [← datetimePayload_fields hp, decodeEvent_getDatetime, decodeGetDatetime_datetimePayload], rfl⟩
  · exact ⟨_, by rw [hp, decodeEvent_getStatus, decodeBare_zero], rfl⟩

/-- Settles O4: both sides say that the word's fields are those of the mnemonic's row. -/
theorem eventWordsSpellTheRowsTheyMatch : Obligations.EventWordsSpellTheRowsTheyMatch := by
  intro c w name hc
  rw [exists_row_iff]
  constructor
  · rintro ⟨i, hd, rfl⟩
    exact rowFields_of_decodeEvent hd
  · exact decodeEvent_of_rowFields hc

/-! The reserved words (R99). -/

/-- A row's two tests, of `a` and of the payload, refuse what fails either. -/
theorem two_tests_reserved_iff {A P : Prop} [Decidable A] [Decidable P] (r₁ r₂ : Reserved) (i : Instr) :
    (∃ why, (if A then Decoded.reserved r₁ else if P then .reserved r₂ else .instr i) = .reserved why) ↔ A ∨ P := by
  by_cases hA : A
  · simp [hA]
  · by_cases hP : P <;> simp [hA, hP]

theorem ne_zero_iff_toNat_ne_zero {k : Nat} (x : BitVec k) : x ≠ 0#k ↔ x.toNat ≠ 0 := not_congr BitVec.toNat_inj.symm

theorem decodeBare_reserved_iff (i : Instr) (a : BitVec 4) (p : BitVec 32) :
    (∃ why, decodeBare i a p = .reserved why) ↔ a.toNat ≠ 0 ∨ p.toNat ≠ 0 :=
  (two_tests_reserved_iff ..).trans (or_congr (ne_zero_iff_toNat_ne_zero a) (ne_zero_iff_toNat_ne_zero p))

theorem decodeEdge_reserved_iff (c : Config) (a : BitVec 4) (p : BitVec 32) :
    (∃ why, decodeEdge c a p = .reserved why) ↔ 2 ≤ a.toNat ∨ 2 ^ c.tsW ≤ p.toNat := by
  have ha : (a ≠ 0#4 ∧ a ≠ 1#4) ↔ 2 ≤ a.toNat := by bv_omega
  have hp : fitsTimestamp c p = false ↔ 2 ^ c.tsW ≤ p.toNat := by simp [fitsTimestamp]
  unfold decodeEdge
  rw [← apply_ite Decoded.instr]
  exact (two_tests_reserved_iff ..).trans (or_congr ha hp)

theorem decodeSubscribe_reserved_iff (a : BitVec 4) (p : BitVec 32) :
    (∃ why, decodeSubscribe a p = .reserved why) ↔ a.toNat ≠ 0 ∨ 2 ^ 7 ≤ p.toNat :=
  (two_tests_reserved_iff ..).trans
    (or_congr (ne_zero_iff_toNat_ne_zero a) ((not_congr (extractLsb'_high_eq_zero_iff p rfl)).trans Nat.not_lt))

theorem decodeGetDatetime_reserved_iff (a : BitVec 4) (p : BitVec 32) :
    (∃ why, decodeGetDatetime a p = .reserved why) ↔ a.toNat ≠ 0 ∨ 2 ≤ p.toNat :=
  (two_tests_reserved_iff ..).trans
    (or_congr (ne_zero_iff_toNat_ne_zero a) ((not_congr (extractLsb'_high_eq_zero_iff p rfl)).trans Nat.not_lt))

theorem decodeEvent_reserved_iff (c : Config) (w : EventWord) :
    (∃ why, decodeEvent c w = .reserved why) ↔ ReservedFields c (opField w).toNat (argField w).toNat (payload w).toNat := by
  unfold decodeEvent ReservedFields
  split
  next e => simp [e, decodeEdge_reserved_iff]
  next e => simp [e, decodeBare_reserved_iff]
  next e => simp [e, decodeBare_reserved_iff]
  next e => simp [e, decodeBare_reserved_iff]
  next e => simp [e, decodeSubscribe_reserved_iff]
  next e => simp [e, decodeBare_reserved_iff]
  next e => simp [e, decodeGetDatetime_reserved_iff]
  next e => simp [e, decodeBare_reserved_iff]
  next h1 h2 h3 h4 h5 h6 h7 h8 =>
    have hop : (opField w).toNat = 0 ∨ 9 ≤ (opField w).toNat := by
      simp only [imp_false] at h1 h2 h3 h4 h5 h6 h7 h8
      omega
    obtain h | h := hop <;> simp [h]

/-- The numeric slices of a word are its fields (R96). -/
theorem reservedEvent_iff (c : Config) (w : EventWord) : ReservedEvent c w ↔ ∃ why, decodeEvent c w = .reserved why := by
  have hop : (opField w).toNat = w.toNat / 2 ^ 36 := by
    rw [opField, BitVec.extractLsb'_toNat, Nat.shiftRight_eq_div_pow]
    have := w.isLt
    omega
  have harg : (argField w).toNat = w.toNat / 2 ^ 32 % 16 := by
    rw [argField, BitVec.extractLsb'_toNat, Nat.shiftRight_eq_div_pow]
  have hpayload : (payload w).toNat = w.toNat % 2 ^ 32 := by
    rw [payload, BitVec.extractLsb'_toNat, Nat.shiftRight_zero]
  rw [decodeEvent_reserved_iff, hop, harg, hpayload]

/-- The step of a reserved word (log 8). -/
theorem step_reserved {s : State} {w : EventWord} {rest : List Input} (hp : s.pending = .word w :: rest) {why : Reserved}
    (hd : decode s.cfg (.event w) = .reserved why) : step s = .refused (.reservedWord why) := by
  simp only [step, State.fetch, hp, deliver, hd]

/-- Settles O6: a word that decodes runs its operation, which is never refused; a reserved one is refused. -/
theorem stepRefusesExactlyTheReservedWords : Obligations.StepRefusesExactlyTheReservedWords := by
  intro s w rest hp
  rw [reservedEvent_iff]
  cases hd : decodeEvent s.cfg w with
  | instr i =>
    obtain ⟨t, ht⟩ := exec_next i { s with pending := rest }
    rw [step_word hp hd, ht]
    simp
  | reserved why =>
    rw [step_reserved hp hd]
    simp

/-! Tier 1. -/

/-- Settles O1 by evaluation. -/
theorem wordsDecodeToTheirOperations : Obligations.WordsDecodeToTheirOperations := by
  unfold Obligations.WordsDecodeToTheirOperations
  decide

/-- Settles O5. -/
theorem stepRunsTheDecodedEvent : Obligations.StepRunsTheDecodedEvent :=
  fun _ _ _ _ hp hd => step_word hp hd

/-- Settles O7. -/
theorem stepWithoutInputIsQuiet : Obligations.StepWithoutInputIsQuiet := by
  intro s hp
  simp only [step, State.fetch, hp, idleStep, State.beginOp_eq_quiet]

end Sys2Proof
end

section
/-! The Telegram Assembler (R120 to R131): the exact next state of each kind of edge, and everything an edge can do, said once. -/

namespace Sys2Proof.Machine

open Claims

/-! The statements' words for pauses and pulses, and the model's. -/

theorem inrange_tsdiff_iff (s : State) (a b : Timestamp) (lo hi : Duration) :
    inrange (tsdiff s.cfg.tsW a b) lo hi = true ↔ lo.toNat ≤ elapsed s a b ∧ elapsed s a b ≤ hi.toNat := by
  rw [inrange_iff, tsdiff_toNat, elapsed]

theorem pauseElapsed_iff (s : State) (ts last : Timestamp) (v : Bool) : pauseElapsed s.cfg ts last v = true ↔ PauseSeen s ts last v := by
  rw [pauseElapsed, Bool.and_eq_true, inrange_tsdiff_iff]

theorem classifyPulse_tsdiff (s : State) (a b : Timestamp) :
    classifyPulse s.cfg (tsdiff s.cfg.tsW a b) = spells s.cfg (elapsed s a b) :=
  ite_congr (propext (inrange_tsdiff_iff ..)) (fun _ => rfl) fun _ =>
    ite_congr (propext (inrange_tsdiff_iff ..)) (fun _ => rfl) fun _ => rfl

theorem classBit_bitClass (b : Bit) : classBit (bitClass b) = some b := by cases b <;> rfl

theorem bitClass_ne_invalid (b : Bit) : bitClass b ≠ .invalid := by cases b <;> simp [bitClass]

theorem exists_eq_bitClass {k : PulseClass} (h : k ≠ .invalid) : ∃ b, k = bitClass b := by
  cases k with
  | zero => exact ⟨.zero, rfl⟩
  | one => exact ⟨.one, rfl⟩
  | invalid => exact absurd rfl h

theorem pulseOutcome_of_start {s : State} (h : s.tHiValid = true) (ts : Timestamp) :
    pulseOutcome s ts = spells s.cfg (elapsed s ts s.tHi) := if_pos h

theorem pulseOutcome_of_no_start {s : State} (h : s.tHiValid = false) (ts : Timestamp) : pulseOutcome s ts = .invalid :=
  if_neg (by simp [h])

theorem tHiValid_of_pulseOutcome {s : State} {ts : Timestamp} {b : Bit} (h : pulseOutcome s ts = bitClass b) : s.tHiValid = true := by
  cases hv : s.tHiValid
  · rw [pulseOutcome_of_no_start hv] at h
    exact absurd h.symm (bitClass_ne_invalid b)
  · rfl

/-! Edges while stopped (R129) and the rising edge (R120). -/

theorem exec_edgeHi_running {s : State} (h : s.running = true) (ts : Timestamp) :
    exec (.edgeHi ts) s = .next (s.beginOp.risingEdge ts) := by
  rw [exec, execEdgeHi, if_pos h]

theorem exec_edgeLo_running {s : State} (h : s.running = true) (ts : Timestamp) :
    exec (.edgeLo ts) s = .next (s.beginOp.fallingEdge ts) := by
  rw [exec, execEdgeLo, if_pos h]

/-- Settles O12. -/
theorem edgesWhileStoppedAreIgnored : Obligations.EdgesWhileStoppedAreIgnored := by
  intro s ts h
  have hn : ¬s.running = true := by simp [h]
  constructor
  · rw [exec, execEdgeHi, if_neg hn, State.beginOp_eq_quiet]
  · rw [exec, execEdgeLo, if_neg hn, State.beginOp_eq_quiet]

/-- The block after step 1 of an edge against the edge before of its kind (R122). -/
theorem detectPause_beginOp (s : State) (ts last : Timestamp) (v : Bool) :
    s.beginOp.detectPause ts last v = if s.sync = .searching ∧ PauseSeen s ts last v then s.beginOp.synchronize else s.beginOp := by
  obtain ⟨hs, hp, h⟩ | ⟨hn, h⟩ := detectPause_cases s.beginOp ts last v
  · rw [h, if_pos ⟨hs, (pauseElapsed_iff s ts last v).1 hp⟩]
  · rw [h, if_neg fun hc => hn ⟨hc.1, (pauseElapsed_iff s ts last v).2 hc.2⟩]

/-- Settles O13, by the pause test. -/
theorem risingEdgeWhileRunning : Obligations.RisingEdgeWhileRunning := by
  intro s ts h
  rw [exec_edgeHi_running h, State.risingEdge, State.beginOp_tHi, State.beginOp_tHiValid, detectPause_beginOp]
  split <;> rfl

/-! The falling edge (R121). -/

/-- Steps 2 and 3 of `EDGE.LO` (R124, R125). -/
theorem measurePulse_recordLo (s : State) (ts : Timestamp) :
    (s.recordLo ts).measurePulse ts =
      (pulseOutcome s ts,
        { s with
          tLo := ts, tLoValid := true
          lastDur := if s.tHiValid = true then BitVec.ofNat 32 (elapsed s ts s.tHi) else s.lastDur
          ports := { s.ports with cls := if s.tHiValid = true then some (pulseOutcome s ts) else s.ports.cls } }) := by
  obtain ⟨hv, h⟩ | ⟨hv, h⟩ := measurePulse_cases (s.recordLo ts) ts
  · have hs : s.tHiValid = true := hv
    rw [h, pulseOutcome_of_start hs, ← classifyPulse_tsdiff]
    rw [if_pos hs, if_pos hs]
    rfl
  · have hs : s.tHiValid = false := hv
    have hn : ¬s.tHiValid = true := by simp [hs]
    rw [h, pulseOutcome_of_no_start hs, if_neg hn, if_neg hn]
    rfl

/-- The state after steps 1 to 3 of an `EDGE.LO` whose pulse spells `b`, if step 1 sees no pause. -/
def measuredBit (s : State) (ts : Timestamp) (b : Bit) : State :=
  { s with
    tLo := ts, tLoValid := true
    lastDur := BitVec.ofNat 32 (elapsed s ts s.tHi)
    ports := { quietPorts s with cls := some (bitClass b) } }

section
variable {s : State} {ts : Timestamp} {b : Bit} (hrun : s.running = true)
include hrun

/-- Step 4 (R126). -/
theorem exec_edgeLo_invalid (hk : pulseOutcome s ts = .invalid) :
    exec (.edgeLo ts) s = .next
      { s with
        sync := .searching, tick := 0, buf := [], tLo := ts, tLoValid := true, wdArmed := true
        lastDur := if s.tHiValid = true then BitVec.ofNat 32 (elapsed s ts s.tHi) else s.lastDur
        ports := edgePorts s (if s.tHiValid = true then some .invalid else none) } := by
  have hk' : pulseOutcome s.beginOp ts = .invalid := hk
  have hkSync : pulseOutcome s.beginOp.synchronize ts = .invalid := hk
  rw [exec_edgeLo_running hrun, State.fallingEdge, State.beginOp_tLo, State.beginOp_tLoValid, detectPause_beginOp]
  split
  · rw [measurePulse_recordLo, hkSync]; rfl
  · rw [measurePulse_recordLo, hk']; rfl

/-- Steps 1 to 3 of an `EDGE.LO` that sees no pause, with step 5 to come. -/
theorem exec_edgeLo_bit (hnp : ¬(s.sync = .searching ∧ PauseSeen s ts s.tLo s.tLoValid)) (hk : pulseOutcome s ts = bitClass b) :
    exec (.edgeLo ts) s = .next ((measuredBit s ts b).acceptBit b).armWatchdog := by
  have hm : (s.beginOp.recordLo ts).measurePulse ts = (bitClass b, measuredBit s ts b) := by
    have hv : s.beginOp.tHiValid = true := tHiValid_of_pulseOutcome hk
    rw [measurePulse_recordLo, show pulseOutcome s.beginOp ts = bitClass b from hk, if_pos hv, if_pos hv]
    rfl
  rw [exec_edgeLo_running hrun, State.fallingEdge, State.beginOp_tLo, State.beginOp_tLoValid, detectPause_beginOp, if_neg hnp, hm]
  simp only [State.consumePulse, classBit_bitClass]

/-- A pause seen while searching has the effect of the same edge on the block at `S(0)` (R122). -/
theorem exec_edgeLo_paused (hsync : s.sync = .searching) (hp : PauseSeen s ts s.tLo s.tLoValid) :
    exec (.edgeLo ts) s = exec (.edgeLo ts) s.synchronize := by
  rw [exec_edgeLo_running hrun, exec_edgeLo_running (s := s.synchronize) hrun, State.fallingEdge, State.fallingEdge,
    State.beginOp_tLo, State.beginOp_tLoValid, detectPause_beginOp, if_pos ⟨hsync, hp⟩, detectPause_synchronized rfl]
  rfl

end

/-- Settles O14. -/
theorem invalidPulseResyncs : Obligations.InvalidPulseResyncs :=
  fun _ _ hrun hk => exec_edgeLo_invalid hrun hk

/-- Settles O15: with no pause the measured bit meets a searching block, which drops it. -/
theorem bitsAreDroppedWhileSearching : Obligations.BitsAreDroppedWhileSearching := by
  intro s ts b hrun hsync hnp hk
  have hdrop : (measuredBit s ts b).acceptBit b = measuredBit s ts b := if_neg (by simp [measuredBit, hsync])
  rw [exec_edgeLo_bit hrun (fun hc => hnp hc.2) hk, hdrop]
  rfl

/-! A synchronized block stores the bit. -/

section
variable {s : State} {ts : Timestamp} {b : Bit} (hrun : s.running = true) (hsync : s.sync = .synchronized)
  (hk : pulseOutcome s ts = bitClass b)
include hrun hsync hk

/-- Step 5 on a synchronized block: completion (R128) or the decode trigger (R130). -/
theorem exec_edgeLo_synchronized :
    exec (.edgeLo ts) s = .next
      (if s.tick > 57 then ((measuredBit s ts b).append b).complete else ((measuredBit s ts b).append b).decodeTrigger).armWatchdog := by
  have hnp : ¬(s.sync = .searching ∧ PauseSeen s ts s.tLo s.tLoValid) := by simp [hsync]
  have haccept : (measuredBit s ts b).acceptBit b =
      if s.tick > 57 then ((measuredBit s ts b).append b).complete else ((measuredBit s ts b).append b).decodeTrigger := by
    have htick : s.tick + 1 > 58 ↔ s.tick > 57 := by omega
    rw [State.acceptBit, if_pos (show (measuredBit s ts b).sync = _ from hsync)]
    exact ite_congr (propext htick) (fun _ => rfl) (fun _ => rfl)
  rw [exec_edgeLo_bit hrun hnp hk, haccept]

theorem exec_edgeLo_appended (h57 : s.tick ≤ 57) (hnd : ¬(s.tick = 0 ∧ s.ltValid = true)) :
    exec (.edgeLo ts) s = .next (withBit s ts b) := by
  rw [exec_edgeLo_synchronized hrun hsync hk, if_neg (by omega)]
  obtain ⟨h1, hv, -⟩ | ⟨-, h⟩ := decodeTrigger_cases ((measuredBit s ts b).append b)
  · exact absurd ⟨Nat.succ_inj.1 h1, hv⟩ hnd
  · rw [h]; rfl

theorem exec_edgeLo_completed (h58 : 58 ≤ s.tick) :
    exec (.edgeLo ts) s = .next { withBit s ts b with lt := s.buf ++ [b], ltValid := true, buf := [], tick := 0 } := by
  rw [exec_edgeLo_synchronized hrun hsync hk, if_pos (by omega)]
  rfl

end

/-- Settles O17. -/
theorem acceptedBitIsAppended : Obligations.AcceptedBitIsAppended :=
  fun _ _ _ hrun hsync h57 hnd hk => exec_edgeLo_appended hrun hsync hk h57 hnd

/-- Settles O18. -/
theorem fiftyNinthBitCompletesTheFrame : Obligations.FiftyNinthBitCompletesTheFrame :=
  fun _ _ _ hrun hsync h58 hk => exec_edgeLo_completed hrun hsync hk h58

/-! The decode trigger (R130). -/

theorem decodeTelegram_success {t : List Bit} {f : FieldValues} (h : fieldsOf t = .fields f true true true) (s : State) :
    s.decodeTelegram t = (s.reportDec (fieldsOf t)).commit (committedTime f) := by
  rw [State.decodeTelegram, h]
  rfl

theorem decodeTelegram_failure {t : List Bit} (h : ∀ f, fieldsOf t ≠ .fields f true true true) (s : State) :
    s.decodeTelegram t = (s.reportDec (fieldsOf t)).invalidate := by
  obtain ⟨f, hf, -⟩ | ⟨-, he⟩ := decodeTelegram_cases s t
  · exact absurd hf (h f)
  · exact he

/-- A decode commutes with every change of state that its three writes commute with. -/
theorem decodeTelegram_comm {g : State → State} (hr : ∀ u r, (g u).reportDec r = g (u.reportDec r))
    (hc : ∀ u d, (g u).commit d = g (u.commit d)) (hi : ∀ u, (g u).invalidate = g u.invalidate) (s : State) (t : List Bit) :
    (g s).decodeTelegram t = g (s.decodeTelegram t) := by
  obtain ⟨f, hf, h⟩ | ⟨hf, h⟩ := decodeTelegram_cases s t
  · rw [decodeTelegram_success hf, h, hr, hc]
  · rw [decodeTelegram_failure hf, h, hr, hi]

/-- The state after an `EDGE.LO` that stores the first bit `b` of a frame when there is a last telegram. -/
def decodedBit (s : State) (ts : Timestamp) (b : Bit) : State := ((withBit s ts b).decodeTelegram s.lt).dispatchChanges

/-- The arm request made at the end is the one of `withBit` (R131): a decode and a dispatch do not see it. -/
theorem exec_edgeLo_decoded {s : State} {ts : Timestamp} {b : Bit} (hrun : s.running = true) (hsync : s.sync = .synchronized)
    (hk : pulseOutcome s ts = bitClass b) (h0 : s.tick = 0) (hv : s.ltValid = true) :
    exec (.edgeLo ts) s = .next (decodedBit s ts b) := by
  have htrigger : ((measuredBit s ts b).append b).decodeTrigger =
      (((measuredBit s ts b).append b).decodeTelegram s.lt).dispatchChanges := by
    obtain ⟨-, -, h⟩ | ⟨hn, -⟩ := decodeTrigger_cases ((measuredBit s ts b).append b)
    · exact h
    · exact absurd ⟨congrArg Nat.succ h0, hv⟩ hn
  have harm := decodeTelegram_comm (g := State.armWatchdog) (fun _ _ => rfl) (fun _ _ => rfl) (fun _ => rfl)
    ((measuredBit s ts b).append b) s.lt
  have hwithBit : withBit s ts b = ((measuredBit s ts b).append b).armWatchdog := rfl
  rw [exec_edgeLo_synchronized hrun hsync hk, if_neg (by omega), htrigger, decodedBit, hwithBit, harm]
  rfl

/-- Settles O19: `DECODE` and `DISPATCH` as operations begin with quiet ports, and write the same state beside them. -/
theorem firstBitDecodesAndDispatches : Obligations.FirstBitDecodesAndDispatches := by
  intro s ts b hrun hsync h0 hv hk
  refine ⟨_, _, rfl, rfl, ?_⟩
  rw [exec_edgeLo_decoded hrun hsync hk h0 hv, decodedBit]
  obtain ⟨f, hf, -⟩ | ⟨hf, -⟩ := decodeTelegram_cases s s.lt
  · rw [decodeTelegram_success hf, decodeTelegram_success hf]
    rfl
  · rw [decodeTelegram_failure hf, decodeTelegram_failure hf]
    rfl

/-! Everything an `EDGE.LO` can do. -/

/-- `p` is the synchronized block that steps 2 to 5 of an `EDGE.LO` meet: `s` as it is, or at `S(0)` after a pause (R122). -/
def Located (s : State) (ts : Timestamp) (p : State) : Prop :=
  (s.sync = .synchronized ∧ p = s) ∨ (s.sync = .searching ∧ PauseSeen s ts s.tLo s.tLoValid ∧ p = s.synchronize)

theorem Located.sync {s p : State} {ts : Timestamp} (h : Located s ts p) : p.sync = .synchronized := by
  obtain ⟨hs, rfl⟩ | ⟨-, -, rfl⟩ := h
  · exact hs
  · rfl

/-- Beside the frame position nothing has moved. -/
theorem Located.eq {s p : State} {ts : Timestamp} (h : Located s ts p) : p = { s with sync := .synchronized, tick := p.tick, buf := p.buf } := by
  obtain ⟨hs, rfl⟩ | ⟨-, -, rfl⟩ := h
  · rw [← hs]
  · rfl

/-- The next states of an `EDGE.LO ts` in `s`, by what becomes of the pulse (R125 to R130). -/
inductive EdgeLoNext (s : State) (ts : Timestamp) : State → Prop
  | ignored (hrun : s.running = false) : EdgeLoNext s ts { s with ports := quietPorts s }
  | resynced (hrun : s.running = true) (hk : pulseOutcome s ts = .invalid) : EdgeLoNext s ts
      { s with
        sync := .searching, tick := 0, buf := [], tLo := ts, tLoValid := true, wdArmed := true
        lastDur := if s.tHiValid = true then BitVec.ofNat 32 (elapsed s ts s.tHi) else s.lastDur
        ports := edgePorts s (if s.tHiValid = true then some .invalid else none) }
  | dropped (hrun : s.running = true) (hsync : s.sync = .searching) (hnp : ¬PauseSeen s ts s.tLo s.tLoValid) (b : Bit)
      (hk : pulseOutcome s ts = bitClass b) : EdgeLoNext s ts
      { s with
        tLo := ts, tLoValid := true, wdArmed := true, lastDur := BitVec.ofNat 32 (elapsed s ts s.tHi)
        ports := edgePorts s (some (bitClass b)) }
  | appended (hrun : s.running = true) (p : State) (hp : Located s ts p) (b : Bit) (hk : pulseOutcome s ts = bitClass b)
      (h57 : p.tick ≤ 57) (hnd : ¬(p.tick = 0 ∧ s.ltValid = true)) : EdgeLoNext s ts (withBit p ts b)
  | completed (hrun : s.running = true) (hsync : s.sync = .synchronized) (b : Bit) (hk : pulseOutcome s ts = bitClass b)
      (h58 : 58 ≤ s.tick) : EdgeLoNext s ts { withBit s ts b with lt := s.buf ++ [b], ltValid := true, buf := [], tick := 0 }
  | decoded (hrun : s.running = true) (p : State) (hp : Located s ts p) (b : Bit) (hk : pulseOutcome s ts = bitClass b)
      (h0 : p.tick = 0) (hv : s.ltValid = true) : EdgeLoNext s ts (decodedBit p ts b)

theorem edgeLoNext_of_located {s p t : State} {ts : Timestamp} {b : Bit} (hrun : s.running = true) (hp : Located s ts p)
    (hk : pulseOutcome s ts = bitClass b) (h : exec (.edgeLo ts) p = .next t) : EdgeLoNext s ts t := by
  have hfields := hp.eq
  have hrun' : p.running = true := by rw [hfields]; exact hrun
  have hk' : pulseOutcome p ts = bitClass b := by rw [hfields]; exact hk
  have hv' : p.ltValid = s.ltValid := by rw [hfields]
  by_cases h58 : 58 ≤ p.tick
  · obtain ⟨hsync, rfl⟩ | ⟨-, -, rfl⟩ := hp
    · rw [exec_edgeLo_completed hrun hsync hk h58] at h
      cases h
      exact .completed hrun hsync b hk h58
    · exact absurd h58 (by simp)
  by_cases hd : p.tick = 0 ∧ s.ltValid = true
  · obtain ⟨h0, hv⟩ := hd
    rw [exec_edgeLo_decoded hrun' hp.sync hk' h0 (hv'.trans hv)] at h
    cases h
    exact .decoded hrun p hp b hk h0 hv
  · rw [exec_edgeLo_appended hrun' hp.sync hk' (by omega) (by rwa [hv'])] at h
    cases h
    exact .appended hrun p hp b hk (by omega) hd

theorem exec_edgeLo_cases {s t : State} {ts : Timestamp} (h : exec (.edgeLo ts) s = .next t) : EdgeLoNext s ts t := by
  cases hrun : s.running with
  | false =>
    rw [(edgesWhileStoppedAreIgnored s ts hrun).2] at h
    cases h
    exact .ignored hrun
  | true =>
    by_cases hk : pulseOutcome s ts = .invalid
    · rw [exec_edgeLo_invalid hrun hk] at h
      cases h
      exact .resynced hrun hk
    · obtain ⟨b, hk⟩ := exists_eq_bitClass hk
      cases hsync : s.sync with
      | synchronized => exact edgeLoNext_of_located hrun (.inl ⟨hsync, rfl⟩) hk h
      | searching =>
        by_cases hp : PauseSeen s ts s.tLo s.tLoValid
        · rw [exec_edgeLo_paused hrun hsync hp] at h
          exact edgeLoNext_of_located hrun (.inr ⟨hsync, hp, rfl⟩) hk h
        · rw [bitsAreDroppedWhileSearching s ts b hrun hsync hp hk] at h
          cases h
          exact .dropped hrun hsync hp b hk

/-- Settles O16: the edge on the synchronized block, whose only next states with a valid pulse store one bit. -/
theorem fallingEdgePauseSynchronizesFirst : Obligations.FallingEdgePauseSynchronizesFirst := by
  intro s ts hrun hsync hp
  have hsame := exec_edgeLo_paused hrun hsync hp
  refine ⟨hsame, fun hk => ?_⟩
  obtain ⟨b, hk⟩ := exists_eq_bitClass hk
  rw [hsame]
  cases hv : s.ltValid with
  | true =>
    refine ⟨_, exec_edgeLo_decoded (s := s.synchronize) (b := b) hrun rfl hk rfl hv, ?_⟩
    simp [decodedBit, dispatchChanges_eq, decodeTelegram_frame, withBit]
  | false =>
    have hnd : ¬(s.synchronize.tick = 0 ∧ s.synchronize.ltValid = true) := by simp [hv]
    exact ⟨_, exec_edgeLo_appended (s := s.synchronize) (b := b) hrun rfl hk (Nat.zero_le _) hnd, rfl, rfl, rfl⟩

end Sys2Proof.Machine
end

section
/-! Every operation (R10, R220): the exact next state of the operations that are no edge, what an edge leaves alone, and who writes what. -/

namespace Sys2Proof.Machine

open Claims

/-! The host interface, the watchdog's expiry and reset. -/

/-- Settles O24. -/
theorem timeoutForcesTheSearch : Obligations.TimeoutForcesTheSearch := fun _ => rfl

/-- Settles O42. -/
theorem startEnablesAndArms : Obligations.StartEnablesAndArms := fun _ => rfl

/-- Settles O43. -/
theorem stopDisablesAndInvalidates : Obligations.StopDisablesAndInvalidates := by
  intro s
  rw [exec, execStop, State.beginOp_eq_quiet]
  rfl

/-- Settles O44. -/
theorem subscribeReplacesTheSubscription : Obligations.SubscribeReplacesTheSubscription := fun _ _ _ => rfl

/-- Settles O45. -/
theorem getLastSignalReturnsTheFrame : Obligations.GetLastSignalReturnsTheFrame := fun _ => rfl

/-- Settles O46. -/
theorem getDatetimeReturnsTheCurrentTime : Obligations.GetDatetimeReturnsTheCurrentTime := by
  intro s ws
  cases ws <;> rfl

/-- Settles O47. -/
theorem getStatusReturnsTheRecord : Obligations.GetStatusReturnsTheRecord := by
  intro s flag
  have hsync : (s.sync == .synchronized) = decide (s.sync = .synchronized) := by cases s.sync <;> rfl
  rw [exec, execGetStatus, statusRecord, hsync]
  rfl

/-- Settles O9. -/
theorem resetLeavesTheStatedValues : Obligations.ResetLeavesTheStatedValues := by
  unfold Obligations.ResetLeavesTheStatedValues
  decide

/-- Settles O10. -/
theorem resetInputRestoresTheResetValues : Obligations.ResetInputRestoresTheResetValues := by
  intro s rest hp
  refine ⟨State.rst { s with pending := rest }, by simp only [step, State.fetch, hp, deliver], ?_⟩
  simp [DateTime.zeros, Ports.quiet]

/-! `DECODE` and `DISPATCH` as operations. -/

/-- `DECODE` writes `cur`, `prev`, `valid` and `dec` (R160, R171). -/
theorem exec_decode (s : State) (t : List Bit) :
    exec (.decode t) s = .next
      { s with
        cur := (s.decodeTelegram t).cur, prev := (s.decodeTelegram t).prev, valid := (s.decodeTelegram t).valid
        ports := { quietPorts s with dec := some (fieldsOf t) } } := by
  rw [exec, execDecode]
  obtain ⟨f, hf, h⟩ | ⟨hf, h⟩ := decodeTelegram_cases s t
  · rw [decodeTelegram_success hf, h]; rfl
  · rw [decodeTelegram_failure hf, h]; rfl

theorem exec_telegram (s : State) (w : FrameWord) : exec (.telegram w) s = exec (.decode (frameBits w)) s := rfl

/-- What stands in `cur`, `prev` and `valid` after a decode: a commit of three passing groups (R172), or `valid` alone cleared (R163, R173). -/
theorem decodeTelegram_time (s : State) (t : List Bit) :
    ((s.decodeTelegram t).valid = true ∧ (s.decodeTelegram t).prev = s.cur ∧
      ∃ f, fieldsOf t = .fields f true true true ∧ (s.decodeTelegram t).cur = committed f) ∨
    ((s.decodeTelegram t).valid = false ∧ (s.decodeTelegram t).cur = s.cur ∧ (s.decodeTelegram t).prev = s.prev) := by
  obtain ⟨f, hf, h⟩ | ⟨-, h⟩ := decodeTelegram_cases s t
  · rw [h]; exact .inl ⟨rfl, rfl, f, hf, rfl⟩
  · rw [h]; exact .inr ⟨rfl, rfl, rfl⟩

/-- The observed bit as the statements write it (R192). -/
theorem announcement_eq (s : State) : s.announcement = s.lt.getD s.cfg.dstAnnBit .zero := rfl

theorem exec_dispatch_eq (s : State) :
    exec .dispatch s = .next
      { s with dstLatch := s.announcement, ports := { quietPorts s with irq := irqDue s.cbEn s.subKinds s.met } } := rfl

/-- The first bit of a frame with a last telegram: the stored bit, the decoded time, the dispatch that follows. -/
theorem decodedBit_eq (s : State) (ts : Timestamp) (b : Bit) :
    decodedBit s ts b =
      { withBit s ts b with
        cur := (s.decodeTelegram s.lt).cur, prev := (s.decodeTelegram s.lt).prev, valid := (s.decodeTelegram s.lt).valid
        dstLatch := s.announcement
        ports := { edgePorts s (some (bitClass b)) with
          irq := irqDue s.cbEn s.subKinds (s.decodeTelegram s.lt).met
          dec := some (fieldsOf s.lt) } } := by
  rw [decodedBit]
  obtain ⟨f, hf, h⟩ | ⟨hf, h⟩ := decodeTelegram_cases s s.lt
  · rw [decodeTelegram_success hf, h]; rfl
  · rw [decodeTelegram_failure hf, h]; rfl

/-! Edges. -/

/-- Everything an `EDGE.HI` can do (R120, R129). -/
theorem exec_edgeHi_cases {s t : State} {ts : Timestamp} (h : exec (.edgeHi ts) s = .next t) :
    (s.running = false ∧ t = { s with ports := quietPorts s }) ∨
    (s.running = true ∧ ∃ p, ((¬(s.sync = .searching ∧ PauseSeen s ts s.tHi s.tHiValid) ∧ p = s) ∨
        (s.sync = .searching ∧ PauseSeen s ts s.tHi s.tHiValid ∧ p = s.synchronize)) ∧
      t = { p with tHi := ts, tHiValid := true, wdArmed := true, ports := edgePorts s none }) := by
  by_cases hrun : s.running = true
  · rw [risingEdgeWhileRunning s ts hrun] at h
    cases h
    refine .inr ⟨hrun, _, ?_, rfl⟩
    split
    next hp => exact .inr ⟨hp.1, hp.2, rfl⟩
    next hp => exact .inl ⟨hp, rfl⟩
  · have hstop := Bool.eq_false_iff.2 hrun
    rw [(edgesWhileStoppedAreIgnored s ts hstop).1] at h
    cases h
    exact .inl ⟨hstop, rfl⟩

section
variable {s t : State} {ts : Timestamp}

/-- What no `EDGE.LO` writes. -/
theorem EdgeLoNext.frame (h : EdgeLoNext s ts t) :
    t.cfg = s.cfg ∧ t.pending = s.pending ∧ t.running = s.running ∧ t.subKinds = s.subKinds ∧ t.cbEn = s.cbEn ∧ t.tHi = s.tHi ∧
      t.tHiValid = s.tHiValid := by
  cases h with
  | ignored | resynced | dropped | completed => exact ⟨rfl, rfl, rfl, rfl, rfl, rfl, rfl⟩
  | appended _ p hp b => rw [hp.eq]; exact ⟨rfl, rfl, rfl, rfl, rfl, rfl, rfl⟩
  | decoded _ p hp b => rw [decodedBit_eq, hp.eq]; exact ⟨rfl, rfl, rfl, rfl, rfl, rfl, rfl⟩

/-- What every `EDGE.LO` writes while running (R124, R131). -/
theorem EdgeLoNext.writes (h : EdgeLoNext s ts t) (hrun : s.running = true) :
    t.tLo = ts ∧ t.tLoValid = true ∧ t.wdArmed = true ∧ t.ports.wdArm = some (s.cfg.pauseHi.toNat + 1000) ∧ t.ports.wdCancel = false := by
  cases h with
  | ignored hstop => simp [hrun] at hstop
  | resynced | dropped | completed => exact ⟨rfl, rfl, rfl, rfl, rfl⟩
  | appended _ p hp b => rw [hp.eq]; exact ⟨rfl, rfl, rfl, rfl, rfl⟩
  | decoded _ p hp b => rw [decodedBit_eq, hp.eq]; exact ⟨rfl, rfl, rfl, rfl, rfl⟩

theorem EdgeLoNext.of_stopped (h : EdgeLoNext s ts t) (hstop : s.running = false) : t = { s with ports := quietPorts s } := by
  cases h with
  | ignored => rfl
  | resynced hrun | dropped hrun | appended hrun | completed hrun | decoded hrun => simp [hrun] at hstop

end

/-! Totality and the watchdog's requests (R220, R151, R152). -/

/-- What every `EDGE.HI` leaves alone, and its arm request while running (R120, R131). -/
theorem exec_edgeHi_frame {s t : State} {ts : Timestamp} (h : exec (.edgeHi ts) s = .next t) :
    t.cfg = s.cfg ∧ t.pending = s.pending ∧ t.running = s.running ∧ t.ports.wdCancel = false ∧
      (s.running = true → t.wdArmed = true ∧ t.ports.wdArm = some (s.cfg.pauseHi.toNat + 1000)) := by
  obtain ⟨hstop, rfl⟩ | ⟨-, p, ⟨-, rfl⟩ | ⟨-, -, rfl⟩, rfl⟩ := exec_edgeHi_cases h
  · exact ⟨rfl, rfl, rfl, rfl, by simp [hstop]⟩
  · exact ⟨rfl, rfl, rfl, rfl, fun _ => ⟨rfl, rfl⟩⟩
  · exact ⟨rfl, rfl, rfl, rfl, fun _ => ⟨rfl, rfl⟩⟩

/-- Settles O8. -/
theorem everyOperationCompletes : Obligations.EveryOperationCompletes := by
  intro i s
  cases i with
  | edgeHi ts =>
    obtain ⟨t, h⟩ := exec_next (.edgeHi ts) s
    obtain ⟨hcfg, hpending, -, -, harm⟩ := exec_edgeHi_frame h
    exact ⟨t, h, hcfg, hpending, fun hrun _ => harm hrun⟩
  | edgeLo ts =>
    obtain ⟨t, h⟩ := exec_next (.edgeLo ts) s
    have hnext := exec_edgeLo_cases h
    obtain ⟨hcfg, hpending, -⟩ := hnext.frame
    refine ⟨t, h, hcfg, hpending, fun hrun _ => ?_⟩
    obtain ⟨-, -, harmed, harm, -⟩ := hnext.writes hrun
    exact ⟨harmed, harm⟩
  | telegram w => exact ⟨_, (exec_telegram s w).trans (exec_decode s _), rfl, rfl, by simp⟩
  | decode t => exact ⟨_, exec_decode s t, rfl, rfl, by simp⟩
  | stop => exact ⟨_, stopDisablesAndInvalidates s, rfl, rfl, by simp⟩
  | timeout | start | subscribe | getLastSignal | getDatetime | getStatus | classify | dispatch => exact ⟨_, rfl, rfl, rfl, by simp⟩

/-- Settles O26. -/
theorem watchdogRequestsHaveTheStatedSources : Obligations.WatchdogRequestsHaveTheStatedSources := by
  intro s i
  cases i with
  | edgeHi ts =>
    obtain ⟨t, h⟩ := exec_next (.edgeHi ts) s
    refine ⟨t, h, ?_⟩
    obtain ⟨hstop, rfl⟩ | ⟨hrun, -⟩ := exec_edgeHi_cases h
    · simp [quietPorts, hstop]
    · obtain ⟨-, -, -, hcancel, harm⟩ := exec_edgeHi_frame h
      simp [harm hrun, hrun, hcancel, eq_comm]
  | edgeLo ts =>
    obtain ⟨t, h⟩ := exec_next (.edgeLo ts) s
    refine ⟨t, h, ?_⟩
    have hnext := exec_edgeLo_cases h
    by_cases hrun : s.running = true
    · obtain ⟨-, -, harmed, harm, hcancel⟩ := hnext.writes hrun
      simp [harmed, harm, hrun, hcancel, eq_comm]
    · rw [hnext.of_stopped (Bool.eq_false_iff.2 hrun)]
      simp [quietPorts, hrun]
  | telegram w => exact ⟨_, (exec_telegram s w).trans (exec_decode s _), by simp [quietPorts]⟩
  | decode t => exact ⟨_, exec_decode s t, by simp [quietPorts]⟩
  | start => exact ⟨_, startEnablesAndArms s, by simp, fun n hn => ⟨(Option.some.inj hn).symm, rfl⟩, by simp [quietPorts]⟩
  | stop => exact ⟨_, stopDisablesAndInvalidates s, by simp [quietPorts]⟩
  | timeout => exact ⟨_, timeoutForcesTheSearch s, by simp [quietPorts]⟩
  | subscribe kinds cb => exact ⟨_, subscribeReplacesTheSubscription s kinds cb, by simp [quietPorts]⟩
  | getLastSignal => exact ⟨_, getLastSignalReturnsTheFrame s, by simp [quietPorts]⟩
  | getDatetime ws => exact ⟨_, getDatetimeReturnsTheCurrentTime s ws, by simp [quietPorts]⟩
  | getStatus => exact ⟨_, getStatusReturnsTheRecord s, by simp [quietPorts]⟩
  | classify d => exact ⟨_, execClassify_frame d s, by simp [quietPorts]⟩
  | dispatch => exact ⟨_, exec_dispatch_eq s, by simp [quietPorts]⟩

/-! The telegram an `EDGE.LO` decodes (R130), by what becomes of its pulse. -/

section
variable {s : State} {ts : Timestamp}

theorem decodes_edgeLo_of_located {p : State} (hp : Located s ts p) {b : Bit} (hrun : s.running = true) (hk : pulseOutcome s ts = bitClass b) :
    decodes s (.edgeLo ts) = if p.tick = 0 ∧ s.ltValid = true then some s.lt else none := by
  have hne : pulseOutcome s ts ≠ .invalid := by rw [hk]; exact bitClass_ne_invalid b
  obtain ⟨hsync, rfl⟩ | ⟨hsync, hpause, rfl⟩ := hp
  · simp [decodes, hrun, hne, hsync, and_comm]
  · exact if_congr ⟨fun ⟨_, hv, _⟩ => ⟨rfl, hv⟩, fun ⟨_, hv⟩ => ⟨hrun, hv, hne, .inr ⟨hsync, hpause⟩⟩⟩ rfl rfl

theorem EdgeLoNext.decodes {t : State} (h : EdgeLoNext s ts t) :
    (decodes s (.edgeLo ts) = none ∧ t.cur = s.cur ∧ t.prev = s.prev ∧ t.valid = s.valid ∧ t.dstLatch = s.dstLatch ∧
      t.ports.irq = false) ∨
    (decodes s (.edgeLo ts) = some s.lt ∧ s.running = true ∧ s.ltValid = true ∧
      ∃ p b, Located s ts p ∧ p.tick = 0 ∧ t = decodedBit p ts b) := by
  cases h with
  | ignored hrun => exact .inl ⟨by simp [Claims.decodes, hrun], rfl, rfl, rfl, rfl, rfl⟩
  | resynced hrun hk => exact .inl ⟨by simp [Claims.decodes, hk], rfl, rfl, rfl, rfl, rfl⟩
  | dropped hrun hsync hnp b hk => exact .inl ⟨by simp [Claims.decodes, hsync, hnp], rfl, rfl, rfl, rfl, rfl⟩
  | appended hrun p hp b hk h57 hnd =>
    refine .inl ⟨(decodes_edgeLo_of_located hp hrun hk).trans (if_neg hnd), ?_⟩
    rw [hp.eq]
    exact ⟨rfl, rfl, rfl, rfl, rfl⟩
  | completed hrun hsync b hk h58 =>
    have h0 : ¬s.tick = 0 := by omega
    exact .inl ⟨by simp [Claims.decodes, hsync, h0], rfl, rfl, rfl, rfl, rfl⟩
  | decoded hrun p hp b hk h0 hv =>
    exact .inr ⟨(decodes_edgeLo_of_located hp hrun hk).trans (if_pos ⟨h0, hv⟩), hrun, hv, p, b, hp, h0, rfl⟩

end

/-! Who writes what (R21 to R36). -/

/-- What only an edge writes (R24 to R27), and the configuration. -/
theorem exec_frame_of_no_edge {s t : State} {i : Instr} (hi : edgeOf i = none) (h : exec i s = .next t) :
    t.lt = s.lt ∧ t.ltValid = s.ltValid ∧ t.tHi = s.tHi ∧ t.tHiValid = s.tHiValid ∧ t.tLo = s.tLo ∧ t.tLoValid = s.tLoValid ∧
      t.lastDur = s.lastDur ∧ t.cfg = s.cfg := by
  cases i with
  | edgeHi | edgeLo => cases hi
  | telegram w => rw [exec_telegram, exec_decode] at h; cases h; exact ⟨rfl, rfl, rfl, rfl, rfl, rfl, rfl, rfl⟩
  | decode T => rw [exec_decode] at h; cases h; exact ⟨rfl, rfl, rfl, rfl, rfl, rfl, rfl, rfl⟩
  | stop => rw [stopDisablesAndInvalidates] at h; cases h; exact ⟨rfl, rfl, rfl, rfl, rfl, rfl, rfl, rfl⟩
  | timeout | start | subscribe | getLastSignal | getDatetime | getStatus | classify | dispatch =>
    cases h; exact ⟨rfl, rfl, rfl, rfl, rfl, rfl, rfl, rfl⟩

/-- The frame position and the frame in progress are written by edges and `TIMEOUT` (R21 to R23). -/
theorem exec_position_of_no_edge {s t : State} {i : Instr} (hi : edgeOf i = none) (hne : i ≠ .timeout) (h : exec i s = .next t) :
    t.sync = s.sync ∧ t.tick = s.tick ∧ t.buf = s.buf := by
  cases i with
  | edgeHi | edgeLo => cases hi
  | timeout => exact absurd rfl hne
  | telegram w => rw [exec_telegram, exec_decode] at h; cases h; exact ⟨rfl, rfl, rfl⟩
  | decode T => rw [exec_decode] at h; cases h; exact ⟨rfl, rfl, rfl⟩
  | stop => rw [stopDisablesAndInvalidates] at h; cases h; exact ⟨rfl, rfl, rfl⟩
  | start | subscribe | getLastSignal | getDatetime | getStatus | classify | dispatch => cases h; exact ⟨rfl, rfl, rfl⟩

theorem frameBits_eq (w : FrameWord) : (List.range 59).map (fun i => if w.getLsbD i = true then Bit.one else Bit.zero) = frameBits w := by
  refine List.map_congr_left fun i _ => ?_
  cases w.getLsbD i <;> rfl

/-- The time after a decode, as O36 has it of the operation that decoded `T`. -/
theorem decoded_time (s : State) (T : List Bit) :
    ∃ u, exec (.decode T) s = .next u ∧ (s.decodeTelegram T).cur = u.cur ∧ (s.decodeTelegram T).prev = u.prev ∧
      (s.decodeTelegram T).valid = u.valid ∧ some (fieldsOf T) = u.ports.dec ∧
      ((u.valid = true ∧ u.prev = s.cur ∧ ∃ f, u.ports.dec = some (.fields f true true true) ∧ u.cur = committed f) ∨
        (u.valid = false ∧ u.cur = s.cur ∧ u.prev = s.prev)) := by
  refine ⟨_, exec_decode s T, rfl, rfl, rfl, rfl, ?_⟩
  obtain ⟨hv, hprev, f, hf, hcur⟩ | ⟨hv, hcur, hprev⟩ := decodeTelegram_time s T
  · exact .inl ⟨hv, hprev, f, congrArg some hf, hcur⟩
  · exact .inr ⟨hv, hcur, hprev⟩

/-- The decode at the trigger writes the same time whether or not the edge saw a pause first. -/
theorem decodedBit_time {s p : State} {ts₀ : Timestamp} (hp : Located s ts₀ p) (ts : Timestamp) (b : Bit) :
    (decodedBit p ts b).cur = (s.decodeTelegram s.lt).cur ∧ (decodedBit p ts b).prev = (s.decodeTelegram s.lt).prev ∧
      (decodedBit p ts b).valid = (s.decodeTelegram s.lt).valid ∧ (decodedBit p ts b).ports.dec = some (fieldsOf s.lt) := by
  rw [decodedBit_eq]
  obtain ⟨-, rfl⟩ | ⟨-, -, rfl⟩ := hp
  · exact ⟨rfl, rfl, rfl, rfl⟩
  · have hsync := decodeTelegram_comm (g := State.synchronize) (fun _ _ => rfl) (fun _ _ => rfl) (fun _ => rfl) s s.lt
    exact ⟨(congrArg State.cur hsync :), (congrArg State.prev hsync :), (congrArg State.valid hsync :), rfl⟩

/-- Settles O36: the operations that decode write what the decode gives, `TIMEOUT` and `STOP` clear `valid`, the others touch none of the three. -/
theorem decodedTimeChangesOnlyAsStated : Obligations.DecodedTimeChangesOnlyAsStated := by
  intro s t i h
  cases i with
  | edgeHi ts =>
    obtain ⟨-, rfl⟩ | ⟨-, p, ⟨-, rfl⟩ | ⟨-, -, rfl⟩, rfl⟩ := exec_edgeHi_cases h <;> simp [decodes]
  | edgeLo ts =>
    obtain ⟨hd, hcur, hprev, hvalid, -⟩ | ⟨hd, -, -, p, b, hp, -, rfl⟩ := (exec_edgeLo_cases h).decodes
    · exact .inl ⟨hcur, hprev, hvalid, hd, by simp, by simp⟩
    · obtain ⟨u, hu, hrest⟩ := decoded_time s s.lt
      obtain ⟨hcur, hprev, hvalid, hdec⟩ := decodedBit_time hp ts b
      rw [← hcur, ← hprev, ← hvalid, ← hdec] at hrest
      exact .inr (.inr ⟨s.lt, u, hd, hu, hrest⟩)
  | telegram w =>
    obtain ⟨u, hu, hrest⟩ := decoded_time s (frameBits w)
    rw [exec_telegram, exec_decode] at h
    cases h
    exact .inr (.inr ⟨_, u, congrArg some (frameBits_eq w), hu, hrest⟩)
  | decode T =>
    obtain ⟨u, hu, hrest⟩ := decoded_time s T
    rw [exec_decode] at h
    cases h
    exact .inr (.inr ⟨T, u, rfl, hu, hrest⟩)
  | timeout => cases h; exact .inr (.inl ⟨rfl, rfl, rfl, .inl rfl⟩)
  | stop => rw [stopDisablesAndInvalidates] at h; cases h; exact .inr (.inl ⟨rfl, rfl, rfl, .inr rfl⟩)
  | start | subscribe | getLastSignal | getDatetime | getStatus | classify | dispatch =>
    cases h; exact .inl ⟨rfl, rfl, rfl, rfl, by simp, by simp⟩

/-- Settles O35: only a completion writes the last telegram. -/
theorem lastTelegramChangesOnlyAsAWhole : Obligations.LastTelegramChangesOnlyAsAWhole := by
  intro s t i h
  cases i with
  | edgeHi ts =>
    obtain ⟨-, rfl⟩ | ⟨-, p, ⟨-, rfl⟩ | ⟨-, -, rfl⟩, rfl⟩ := exec_edgeHi_cases h <;> exact .inl ⟨rfl, rfl⟩
  | edgeLo ts =>
    cases exec_edgeLo_cases h with
    | ignored | resynced | dropped => exact .inl ⟨rfl, rfl⟩
    | appended _ p hp b => rw [hp.eq]; exact .inl ⟨rfl, rfl⟩
    | decoded _ p hp b => rw [decodedBit_eq, hp.eq]; exact .inl ⟨rfl, rfl⟩
    | completed _ hsync b _ h58 =>
      refine .inr ⟨ts, b, rfl, hsync, h58, rfl, rfl, rfl, rfl, fun hinv => ?_⟩
      have hlen := hinv.tick_eq_length
      have hle := hinv.tick_le
      simp only [List.length_append, List.length_singleton]
      omega
  | _ =>
    obtain ⟨hlt, hv, -⟩ := exec_frame_of_no_edge rfl h
    exact .inl ⟨hlt, hv⟩

/-- `last_dur` is written only by a measurement, which needs a recorded start (R27, R125). -/
theorem EdgeLoNext.lastDur {s t : State} {ts : Timestamp} (h : EdgeLoNext s ts t) (hne : t.lastDur ≠ s.lastDur) : s.tHiValid = true := by
  cases h with
  | ignored => exact absurd rfl hne
  | resynced =>
    by_contra hv
    exact hne (if_neg hv)
  | dropped _ _ _ b hk | appended _ p hp b hk | completed _ _ b hk | decoded _ p hp b hk => exact tHiValid_of_pulseOutcome hk

/-- Settles O52. -/
theorem controlStateHasTheStatedWriters : Obligations.ControlStateHasTheStatedWriters := by
  intro s t i h
  cases i with
  | edgeHi ts =>
    obtain ⟨-, rfl⟩ | ⟨hrun, p, ⟨-, rfl⟩ | ⟨-, -, rfl⟩, rfl⟩ := exec_edgeHi_cases h
    · simp
    · simp [hrun]
    · simp [hrun]
  | edgeLo ts =>
    have hnext := exec_edgeLo_cases h
    by_cases hrun : s.running = true
    · obtain ⟨hcfg, -, hrunning, hkinds, hcb, htHi, htHiValid⟩ := hnext.frame
      obtain ⟨htLo, htLoValid, -⟩ := hnext.writes hrun
      have hlatch : t.dstLatch ≠ s.dstLatch → decodes s (.edgeLo ts) = some s.lt := by
        obtain ⟨-, -, -, -, hl, -⟩ | ⟨hd, -⟩ := hnext.decodes
        · exact fun hne => absurd hl hne
        · exact fun _ => hd
      exact ⟨hcfg, fun hne => absurd hrunning hne, fun _ => .inr (.inr (.inr ⟨hrun, ts, .inr rfl⟩)), by simp [hkinds, hcb],
        fun hne => .inr ⟨hlatch hne, ts, rfl⟩, by simp [htHi, htHiValid], fun _ => ⟨hrun, ts, rfl, htLo, htLoValid⟩,
        fun hne => ⟨hrun, hnext.lastDur hne, ts, rfl⟩⟩
    · rw [hnext.of_stopped (Bool.eq_false_iff.2 hrun)]
      simp
  | telegram w => rw [exec_telegram, exec_decode] at h; cases h; simp
  | decode T => rw [exec_decode] at h; cases h; simp
  | timeout => rw [timeoutForcesTheSearch] at h; cases h; simp
  | dispatch => rw [exec_dispatch_eq] at h; cases h; simp
  | start | stop | subscribe | getLastSignal | getDatetime | getStatus | classify => cases h; simp

/-! The frame position (R132) and synchronization (R21). -/

theorem position_congr {s t : State} (hsync : t.sync = s.sync) (htick : t.tick = s.tick) : t.position = s.position := by
  rw [State.position, State.position, hsync, htick]

theorem position_of_searching {s : State} (h : s.sync = .searching) : s.position = .search := by
  rw [State.position, h]

theorem position_of_synchronized {s : State} (h : s.sync = .synchronized) : s.position = .slot s.tick := by
  rw [State.position, h]

theorem position_eq_search_iff (s : State) : s.position = .search ↔ s.sync = .searching := by
  cases h : s.sync
  · simp [position_of_searching h]
  · simp [position_of_synchronized h]

theorem nextOnFall_of_invalid {s : State} {ts : Timestamp} (hrun : s.running = true) (hk : pulseOutcome s ts = .invalid) :
    nextOnFall s ts = .search := by
  rw [nextOnFall, if_neg (by simp [hrun]), if_pos hk]

theorem nextOnFall_of_bit {s : State} {ts : Timestamp} {b : Bit} (hrun : s.running = true) (hk : pulseOutcome s ts = bitClass b) :
    nextOnFall s ts = nextOnBit (PauseSeen s ts s.tLo s.tLoValid) s.position := by
  have hne : pulseOutcome s ts ≠ .invalid := by rw [hk]; exact bitClass_ne_invalid b
  rw [nextOnFall, if_neg (by simp [hrun]), if_neg hne]

/-- The table's row of an accepted bit, on the block that stores it. -/
theorem nextOnBit_of_located {s p : State} {ts : Timestamp} (hp : Located s ts p) :
    nextOnBit (PauseSeen s ts s.tLo s.tLoValid) s.position = if p.tick = 58 then .slot 0 else .slot (p.tick + 1) := by
  obtain ⟨hsync, rfl⟩ | ⟨hsync, hpause, rfl⟩ := hp
  · rw [position_of_synchronized hsync]; rfl
  · rw [position_of_searching hsync]; exact if_pos hpause

/-- Settles O20: each next state of an edge stands at the table's entry, and but for `TIMEOUT` no other operation moves the position. -/
theorem framePositionFollowsTheTable : Obligations.FramePositionFollowsTheTable := by
  intro s i hinv
  obtain ⟨t, h⟩ := exec_next i s
  refine ⟨t, h, ?_⟩
  cases i with
  | edgeHi ts =>
    have hsearch := position_eq_search_iff s
    rw [tableNext, nextOnRise]
    obtain ⟨hstop, rfl⟩ | ⟨hrun, p, ⟨hn, rfl⟩ | ⟨hsync, hp, rfl⟩, rfl⟩ := exec_edgeHi_cases h
    · rw [if_neg (by simp [hstop])]; rfl
    · rw [if_neg fun hc => hn ⟨hsearch.1 hc.2.1, hc.2.2⟩]; rfl
    · rw [if_pos ⟨hrun, hsearch.2 hsync, hp⟩]; rfl
  | edgeLo ts =>
    rw [tableNext]
    cases exec_edgeLo_cases h with
    | ignored hstop => rw [nextOnFall, if_pos hstop]; rfl
    | resynced hrun hk => rw [nextOnFall_of_invalid hrun hk]; rfl
    | dropped hrun hsync hnp b hk =>
      rw [nextOnFall_of_bit hrun hk, position_of_searching hsync, nextOnBit, if_neg hnp]
      exact position_of_searching hsync
    | appended hrun p hp b hk h57 =>
      rw [nextOnFall_of_bit hrun hk, nextOnBit_of_located hp, if_neg (by omega)]
      exact position_of_synchronized (s := withBit p ts b) hp.sync
    | completed hrun hsync b hk h58 =>
      have htick : s.tick = 58 := Nat.le_antisymm hinv.tick_le h58
      rw [nextOnFall_of_bit hrun hk, nextOnBit_of_located (.inl ⟨hsync, rfl⟩), if_pos htick]
      exact position_of_synchronized (s := { withBit s ts b with lt := s.buf ++ [b], ltValid := true, buf := [], tick := 0 }) hsync
    | decoded hrun p hp b hk h0 =>
      rw [nextOnFall_of_bit hrun hk, nextOnBit_of_located hp, if_neg (by omega), decodedBit_eq]
      exact position_of_synchronized (s := withBit p ts b) hp.sync
  | timeout => cases h; rfl
  | _ =>
    obtain ⟨hsync, htick, -⟩ := exec_position_of_no_edge rfl (by simp) h
    exact position_congr hsync htick

/-- Settles O21: the one way into SYNCHRONIZED is a pause, at either edge; out of it an INVALID outcome or `TIMEOUT`. -/
theorem synchronizationChangesOnlyAsStated : Obligations.SynchronizationChangesOnlyAsStated := by
  intro s t i h
  cases i with
  | edgeHi ts =>
    obtain ⟨-, rfl⟩ | ⟨hrun, p, ⟨-, rfl⟩ | ⟨hsync, hp, rfl⟩, rfl⟩ := exec_edgeHi_cases h
    · simp_all
    · simp_all
    · exact ⟨fun _ _ => ⟨hrun, ts, .inl ⟨rfl, hp⟩⟩, by simp [hsync]⟩
  | edgeLo ts =>
    cases exec_edgeLo_cases h with
    | ignored => simp_all
    | resynced hrun hk => exact ⟨by simp, fun _ _ => .inr ⟨hrun, ts, rfl, hk⟩⟩
    | dropped _ hsync => simp [hsync]
    | completed _ hsync => simp [withBit, hsync]
    | appended hrun p hp | decoded hrun p hp =>
      have hpause (hs : s.sync = .searching) : PauseSeen s ts s.tLo s.tLoValid := by
        obtain ⟨hs', -⟩ | ⟨-, hpause, -⟩ := hp
        · simp [hs] at hs'
        · exact hpause
      refine ⟨fun hs _ => ⟨hrun, ts, .inr ⟨rfl, hpause hs⟩⟩, fun _ ht => ?_⟩
      simp [withBit, decodedBit_eq, hp.sync] at ht
  | timeout => exact ⟨fun _ hs => absurd hs (by cases h; simp [State.expire]), fun _ _ => .inl rfl⟩
  | _ =>
    obtain ⟨hsync, -⟩ := exec_position_of_no_edge rfl (by simp) h
    simp_all

end Sys2Proof.Machine
end

section
/-! The dispatcher and the watchdog beside the other operations (R155, R190 to R197, R206): which operation pulses, on what, and what a run
without a decode leaves alone. -/

namespace Sys2Proof.Machine

open Claims

/-! The conditions of a pulse. -/

theorem dstRise_iff (a latch : Bit) : dstRise a latch = true ↔ a = .one ∧ latch = .zero := by
  simp [dstRise]

theorem irqDue_iff (cb : Bool) (kinds m : KindMask) : irqDue cb kinds m = true ↔ cb = true ∧ m &&& kinds ≠ 0 := by
  simp [irqDue]

/-- R193: no callback or no kind, no pulse. -/
theorem subscribed_of_irqDue {cb : Bool} {kinds m : KindMask} (h : irqDue cb kinds m = true) : cb = true ∧ kinds ≠ 0 := by
  obtain ⟨hcb, hm⟩ := (irqDue_iff cb kinds m).1 h
  exact ⟨hcb, fun h0 => hm (by rw [h0]; exact BitVec.and_zero)⟩

/-- Settles O37. -/
theorem dispatchReportsSubscribedChanges : Obligations.DispatchReportsSubscribedChanges := by
  intro s
  refine ⟨_, exec_dispatch_eq s, ?_⟩
  rw [irqDue_met_iff, exists_subscribed_kindMet_iff, dstRise_iff, announcement_eq]

/-- Settles O38: the mask is `s.met`, which reads no subscription. -/
theorem subscriptionFiltersTheConditions : Obligations.SubscriptionFiltersTheConditions := by
  intro s
  refine ⟨s.met, ⟨fun kinds cb => ⟨_, rfl, irqDue_iff cb kinds s.met, ?none, ?off⟩, ?bits⟩⟩
  case none =>
    intro h0
    by_contra hp
    exact (subscribed_of_irqDue (Bool.eq_true_of_not_eq_false hp)).2 h0
  case off => rintro rfl; rfl
  case bits =>
    have hbit (k : Kind) := getLsbD_metMask s.prev s.cur s.announcement s.dstLatch k
    have hfield {x y : Int} : (x != y) = true ↔ x ≠ y := bne_iff_ne
    exact ⟨(hbit .minute).trans hfield, (hbit .hour).trans hfield, (hbit .day).trans hfield, (hbit .month).trans hfield,
      (hbit .year).trans hfield, (hbit .dstAnnounced).trans (dstRise_iff ..)⟩

/-- Settles O40: of the six kinds only the announcement is subscribed, and the latch holds what the dispatch before observed. -/
theorem announcementFiresOncePerRise : Obligations.AnnouncementFiresOncePerRise := by
  intro s u v hcb hkinds hu T hT hv
  obtain ⟨hlatch, hcfg, hcb', hkinds'⟩ : u.dstLatch = s.announcement ∧ u.cfg = s.cfg ∧ u.cbEn = s.cbEn ∧ u.subKinds = s.subKinds := by
    rw [exec_dispatch_eq] at hu
    cases hu
    exact ⟨rfl, rfl, rfl, rfl⟩
  obtain ⟨p, hp, hiff⟩ := dispatchReportsSubscribedChanges { u with lt := T }
  cases hp.symm.trans hv
  refine hiff.trans ?_
  rw [hcfg, hT, hlatch, hcb', hcb, hkinds', hkinds, announcement_eq]
  simp

/-! Which operations pulse (R194). -/

/-- A pulse is a subscribed `DISPATCH`'s, or that of an `EDGE.LO` at the decode trigger. -/
theorem exec_irq {s t : State} {i : Instr} (h : exec i s = .next t) (hirq : t.ports.irq = true) :
    s.cbEn = true ∧ s.subKinds ≠ 0 ∧
      (i = .dispatch ∨ ∃ ts p b, i = .edgeLo ts ∧ s.running = true ∧ s.ltValid = true ∧ Located s ts p ∧ p.tick = 0 ∧
        t = decodedBit p ts b) := by
  cases i with
  | edgeHi ts =>
    obtain ⟨-, rfl⟩ | ⟨-, p, -, rfl⟩ := exec_edgeHi_cases h <;> cases hirq
  | edgeLo ts =>
    obtain ⟨-, -, -, -, -, hno⟩ | ⟨-, hrun, hv, p, b, hp, h0, rfl⟩ := (exec_edgeLo_cases h).decodes
    · simp [hno] at hirq
    · have hsub : p.cbEn = true ∧ p.subKinds ≠ 0 := by
        rw [decodedBit_eq] at hirq
        exact subscribed_of_irqDue hirq
      rw [hp.eq] at hsub
      exact ⟨hsub.1, hsub.2, .inr ⟨ts, p, b, rfl, hrun, hv, hp, h0, rfl⟩⟩
  | telegram w => rw [exec_telegram, exec_decode] at h; cases h; cases hirq
  | decode T => rw [exec_decode] at h; cases h; cases hirq
  | dispatch =>
    cases h
    obtain ⟨hcb, hkinds⟩ := subscribed_of_irqDue hirq
    exact ⟨hcb, hkinds, .inl rfl⟩
  | timeout | start | stop | subscribe | getLastSignal | getDatetime | getStatus | classify => cases h; cases hirq

/-- Settles O39. -/
theorem noPulseWithoutSubscription : Obligations.NoPulseWithoutSubscription := by
  intro s t i h hoff
  by_contra hirq
  obtain ⟨hcb, hkinds, -⟩ := exec_irq h (Bool.eq_true_of_not_eq_false hirq)
  obtain hcb' | hkinds' := hoff
  · simp [hcb] at hcb'
  · exact hkinds hkinds'

/-- Settles O41: a word spells no `DISPATCH`, so a pulse is that of the decode trigger. -/
theorem pulsesComeOnlyFromDecodeTriggers : Obligations.PulsesComeOnlyFromDecodeTriggers := by
  intro s t w rest hp h hirq
  cases hd : decode s.cfg (.event w) with
  | reserved why => rw [step_reserved hp hd] at h; cases h
  | instr i =>
    rw [step_word hp hd] at h
    obtain ⟨hcb, hkinds, rfl | ⟨ts, p, b, rfl, hrun, hv, hloc, h0, rfl⟩⟩ := exec_irq h hirq
    · cases (encode_of_decodeEvent hd).1
    · refine ⟨ts, rfl, hrun, hv, ?_, ?_, hcb, hkinds⟩
      · rw [decodedBit_eq]; exact congrArg Nat.succ h0
      · rw [decodedBit_eq]; exact hloc.sync

/-! `GET_DATETIME` between decodes (R206), and the flags (R64). -/

/-- Without a decode `cur` stays. -/
theorem exec_cur_of_not_decodes {s t : State} {i : Instr} (hd : decodes s i = none) (h : exec i s = .next t) : t.cur = s.cur := by
  obtain ⟨hcur, -⟩ | ⟨hcur, -⟩ | ⟨T, u, hT, -⟩ := decodedTimeChangesOnlyAsStated s t i h
  · exact hcur
  · exact hcur
  · simp [hd] at hT

theorem cur_of_runsWithoutDecode {is : List Instr} {s t : State} (h : RunsWithoutDecode s is t) : t.cur = s.cur := by
  induction is generalizing s with
  | nil => exact congrArg State.cur h
  | cons i is ih =>
    obtain ⟨hd, u, hu, hrest⟩ := h
    exact (ih hrest).trans (exec_cur_of_not_decodes hd hu)

/-- Settles O48: both records are `cur`, which the run leaves as it is. -/
theorem datetimeIsStableBetweenDecodes : Obligations.DatetimeIsStableBetweenDecodes := by
  intro s t u v is ht hruns hv
  cases ht
  cases hv
  have hcur : u.cur = s.cur := (cur_of_runsWithoutDecode hruns :)
  exact congrArg (fun d : DateTime => some (Response.datetime { d with second := d.second })) hcur

/-- Settles O56: flags and announcement are read at indices from 1 to 19. -/
theorem flagsAreReadBetweenTheMarkers : Obligations.FlagsAreReadBetweenTheMarkers := by
  intro s t hagree
  have hflag (i : FlagIndex) : State.flagBit { s with lt := t } i = s.flagBit i :=
    ite_congr rfl (fun _ => hagree i i.2.1 i.2.2) fun _ => rfl
  have hann : State.announcement { s with lt := t } = s.announcement := hagree _ s.cfg.dstAnnBit.2.1 s.cfg.dstAnnBit.2.2
  have hstatus : statusRecord { s with lt := t } = statusRecord s := by
    simp only [statusRecord, hflag]
  refine ⟨⟨_, _, rfl, rfl, congrArg (some ∘ Response.status) hstatus⟩, _, _, exec_dispatch_eq _, exec_dispatch_eq _, ?_, hann⟩
  simp only [State.met, hann]

/-! An edge and the expiry of the watchdog (R155). -/

/-- Settles O25: each order is the two exact next states one after the other. -/
theorem edgeAndTimeoutOrdersDiffer : Obligations.EdgeAndTimeoutOrdersDiffer := by
  intro s ts hrun
  refine ⟨_, _, _, _, risingEdgeWhileRunning s ts hrun, timeoutForcesTheSearch _, timeoutForcesTheSearch s,
    risingEdgeWhileRunning _ ts hrun, ?_, ?_⟩
  · split <;> rfl
  · by_cases hp : PauseSeen s ts s.tHi s.tHiValid
    · rw [if_pos ⟨rfl, hp⟩, if_pos hp]
      split <;> rfl
    · rw [if_neg fun hc => hp hc.2, if_neg hp]
      split <;> rfl

end Sys2Proof.Machine
end

section
/-! The Bit-Field Decoder (R160 to R177): the third group and its fields, flipped bits, aborts, commits, and the bits `DECODE` does not read. -/

namespace Sys2Proof.Machine

open Claims

/-! The third group and its fields (R91, R166 to R170). -/

section
variable {t : List Bit} (hlen : t.length = 59)
include hlen

theorem parityDate_iff : parityDate t = true ↔ (onesBetween t 36 57 + val t 58) % 2 = 0 :=
  parityOk_slice_iff (by omega) 58

theorem bcd_dayBits : bcd (slice t 36 41) =
    val t 36 + 2 * val t 37 + 4 * val t 38 + 8 * val t 39 + 10 * val t 40 + 20 * val t 41 := by
  rw [bcd_slice (by omega)]
  simp [weights, List.range_succ, Nat.add_assoc]

theorem bcd_weekdayBits : bcd (slice t 42 44) = val t 42 + 2 * val t 43 + 4 * val t 44 := by
  rw [bcd_slice (by omega)]
  simp [weights, List.range_succ, Nat.add_assoc]

theorem bcd_monthBits : bcd (slice t 45 49) = val t 45 + 2 * val t 46 + 4 * val t 47 + 8 * val t 48 + 10 * val t 49 := by
  rw [bcd_slice (by omega)]
  simp [weights, List.range_succ, Nat.add_assoc]

theorem bcd_yearBits : bcd (slice t 50 57) =
    val t 50 + 2 * val t 51 + 4 * val t 52 + 8 * val t 53 + 10 * val t 54 + 20 * val t 55 + 40 * val t 56 + 80 * val t 57 := by
  rw [bcd_slice (by omega)]
  simp [weights, List.range_succ, Nat.add_assoc]

/-- A field of the third group (R169, R174). -/
theorem guarded_parityDate (v : Int) : guarded (parityDate t) v = if (onesBetween t 36 57 + val t 58) % 2 = 0 then v else 999 :=
  guarded_of_iff (parityDate_iff hlen) v

end

/-! `DECODE` of a telegram with good length and markers. -/

theorem exec_decode_framed {t : List Bit} (hlen : t.length = 59) (h0 : val t 0 = 0) (h20 : val t 20 = 1) (s : State) :
    ∃ u, exec (.decode t) s = .next u ∧
      u.ports.dec = some (.fields (extractFields t) (parityMinute t) (parityHour t) (parityDate t)) :=
  ⟨_, exec_decode s t, congrArg some (fieldsOf_of_framed hlen h0 h20)⟩

/-- Settles O27. -/
theorem fieldsAreWeightedSumsOrSentinel : Obligations.FieldsAreWeightedSumsOrSentinel := by
  intro s t hlen h0 h20
  obtain ⟨u, hu, hdec⟩ := exec_decode_framed hlen h0 h20 s
  refine ⟨u, _, _, _, _, hu, hdec, extractFields_minute hlen, extractFields_hour hlen, ?_, ?_, ?_⟩
  · rw [← bcd_dayBits hlen]; exact guarded_parityDate hlen _
  · rw [← bcd_monthBits hlen]; exact guarded_parityDate hlen _
  · rw [← bcd_yearBits hlen]; exact guarded_parityDate hlen _

theorem val_le_one (t : List Bit) (i : Nat) : val t i ≤ 1 := by
  unfold val
  split <;> omega

/-- Settles O28: three bits weigh at most 7. -/
theorem weekdayIsStoredZeroBased : Obligations.WeekdayIsStoredZeroBased := by
  intro s t hlen h0 h20
  obtain ⟨u, hu, hdec⟩ := exec_decode_framed hlen h0 h20 s
  have hweekday : (extractFields t).weekday = if (onesBetween t 36 57 + val t 58) % 2 = 0 then
      ((val t 42 + 2 * val t 43 + 4 * val t 44 : Nat) : Int) - 1 else 999 := by
    rw [← bcd_weekdayBits hlen]
    exact guarded_parityDate hlen _
  refine ⟨u, _, _, _, _, hu, hdec, ?_, hweekday⟩
  rw [hweekday]
  have h42 := val_le_one t 42
  have h43 := val_le_one t 43
  have h44 := val_le_one t 44
  split <;> omega

/-- Settles O29. -/
theorem parityGroupsPassWhenEven : Obligations.ParityGroupsPassWhenEven := by
  intro s t hlen h0 h20
  obtain ⟨u, hu, hdec⟩ := exec_decode_framed hlen h0 h20 s
  exact ⟨u, _, _, _, _, hu, hdec, parityMinute_iff hlen, parityHour_iff hlen, parityDate_iff hlen⟩

/-! One flipped bit (R174). -/

section
variable {t : List Bit} {i : Nat} (hi : i < t.length)
include hi

theorem val_flipAt (j : Nat) : val (flipAt t i) j = if i = j then 1 - val t i else val t j := by
  unfold val flipAt
  by_cases h : i = j
  · subst h
    rw [if_pos rfl]
    cases ht : t.getD i .zero <;> simp [List.getD_eq_getElem?_getD, hi]
  · rw [if_neg h]
    simp [List.getD_eq_getElem?_getD, List.getElem?_set_ne h]

/-- A flip inside a run of indices changes the parity of its ones, one outside does not. -/
theorem onesBetween_flipAt_mod_two (a b : Nat) :
    onesBetween (flipAt t i) a b % 2 = (onesBetween t a b + if a ≤ i ∧ i < a + (b + 1 - a) then 1 else 0) % 2 := by
  unfold onesBetween
  generalize b + 1 - a = n
  induction n with
  | zero =>
    rw [if_neg (by omega)]
    rfl
  | succ n ih =>
    simp only [List.range_succ, List.map_append, List.sum_append, List.map_singleton, List.sum_singleton, val_flipAt hi (a + n)]
    by_cases hlast : i = a + n
    · have hv := val_le_one t i
      rw [if_neg (by omega)] at ih
      rw [if_pos hlast, if_pos (by omega), ← hlast]
      omega
    · rw [if_neg hlast]
      have hiff : (a ≤ i ∧ i < a + (n + 1)) ↔ (a ≤ i ∧ i < a + n) := by omega
      rw [if_congr hiff rfl rfl]
      omega

end

/-- The ones of a group with its parity bit, which is the next index (R91). -/
theorem onesBetween_add_val {a b : Nat} (h : a ≤ b + 1) (t : List Bit) : onesBetween t a b + val t (b + 1) = onesBetween t a (b + 1) := by
  have hn : b + 1 + 1 - a = (b + 1 - a) + 1 := by omega
  rw [onesBetween, onesBetween, hn, List.range_succ, List.map_append, List.sum_append, List.map_singleton, List.sum_singleton,
    show a + (b + 1 - a) = b + 1 by omega]

/-- A group that passes fails after the flip iff the flipped index is one of its own. -/
theorem parityOk_flipAt {t : List Bit} {i a b : Nat} (hi : i < t.length) (hab : a ≤ b + 1) (hb : b < t.length)
    (hok : parityOk (slice t a b) (bitAt t (b + 1)) = true) :
    parityOk (slice (flipAt t i) a b) (bitAt (flipAt t i) (b + 1)) = false ↔ a ≤ i ∧ i ≤ b + 1 := by
  have hb' : b < (flipAt t i).length := by rwa [flipAt, List.length_set]
  have hflip := onesBetween_flipAt_mod_two hi a (b + 1)
  rw [parityOk_slice_iff hb, onesBetween_add_val hab] at hok
  rw [← Bool.not_eq_true, parityOk_slice_iff hb', onesBetween_add_val hab, hflip]
  split <;> omega

/-- What a full success says of the telegram (R169, R172). -/
theorem framed_of_success {t : List Bit} {f : FieldValues} (h : fieldsOf t = .fields f true true true) :
    t.length = 59 ∧ val t 0 = 0 ∧ val t 20 = 1 ∧ f = extractFields t ∧
      parityMinute t = true ∧ parityHour t = true ∧ parityDate t = true := by
  obtain ⟨-, hf⟩ | ⟨-, -, hf⟩ | ⟨-, -, -, hf⟩ | ⟨hlen, h0, h20, hf⟩ := fieldsOf_cases t
  · simp [hf] at h
  · simp [hf] at h
  · simp [hf] at h
  · rw [hf] at h
    injection h with hfields hmin hhour hdate
    exact ⟨hlen, (val_eq_zero_iff t 0).2 h0, (val_eq_one_iff t 20).2 h20, hfields.symm, hmin, hhour, hdate⟩

/-- Settles O30: the flipped telegram is well framed, and the three groups tile the indices 21 to 58. -/
theorem oneFlippedBitFailsOneGroup : Obligations.OneFlippedBitFailsOneGroup := by
  intro s u t f i hu hdec h21 h58
  rw [exec_decode] at hu
  cases hu
  obtain ⟨hlen, h0, h20, -, hmin, hhour, hdate⟩ := framed_of_success (Option.some.inj hdec)
  have hi : i < t.length := by omega
  have hlen' : (flipAt t i).length = 59 := by rwa [flipAt, List.length_set]
  have h0' : val (flipAt t i) 0 = 0 := by rw [val_flipAt hi, if_neg (by omega), h0]
  have h20' : val (flipAt t i) 20 = 1 := by rw [val_flipAt hi, if_neg (by omega), h20]
  have hminFails : parityMinute (flipAt t i) = false ↔ 21 ≤ i ∧ i ≤ 28 := parityOk_flipAt hi (by omega) (by omega) hmin
  have hhourFails : parityHour (flipAt t i) = false ↔ 29 ≤ i ∧ i ≤ 35 := parityOk_flipAt hi (by omega) (by omega) hhour
  have hdateFails : parityDate (flipAt t i) = false ↔ 36 ≤ i ∧ i ≤ 58 := parityOk_flipAt hi (by omega) (by omega) hdate
  have hfails (g : FieldValues) : fieldsOf (flipAt t i) ≠ .fields g true true true := by
    intro hg
    obtain ⟨-, -, -, -, hmin', hhour', hdate'⟩ := framed_of_success hg
    have hnotMin := hminFails.not.1 (by simp [hmin'])
    have hnotHour := hhourFails.not.1 (by simp [hhour'])
    have hnotDate := hdateFails.not.1 (by simp [hdate'])
    omega
  refine ⟨_, _, _, _, _, exec_decode s _, congrArg some (fieldsOf_of_framed hlen' h0' h20'), ?_, ?_, hhourFails, ?_⟩
  · exact congrArg State.valid (decodeTelegram_failure hfails s)
  · rw [hminFails]; omega
  · rw [hdateFails]; omega

/-! Aborts and commits (R161 to R163, R172, R173). -/

theorem exec_decode_success {t : List Bit} {f : FieldValues} (h : fieldsOf t = .fields f true true true) (s : State) :
    exec (.decode t) s = .next
      { s with prev := s.cur, cur := committed f, valid := true, ports := { quietPorts s with dec := some (fieldsOf t) } } := by
  rw [exec_decode, decodeTelegram_success h]
  rfl

theorem exec_decode_failure {t : List Bit} (h : ∀ f, fieldsOf t ≠ .fields f true true true) (s : State) :
    exec (.decode t) s = .next { s with valid := false, ports := { quietPorts s with dec := some (fieldsOf t) } } := by
  rw [exec_decode, decodeTelegram_failure h]
  rfl

/-- The aborts in the order of the tests (R161, R162). -/
theorem fieldsOf_abort {t : List Bit} {cause : AbortCause}
    (h : (cause = .len ∧ t.length ≠ 59) ∨ (cause = .mark0 ∧ t.length = 59 ∧ val t 0 = 1) ∨
      (cause = .mark20 ∧ t.length = 59 ∧ val t 0 = 0 ∧ val t 20 = 0)) : fieldsOf t = .abort cause := by
  simp only [val_eq_one_iff, val_eq_zero_iff] at h
  obtain ⟨rfl, hlen⟩ | ⟨rfl, hlen, h0⟩ | ⟨rfl, hlen, h0, h20⟩ := h
  · simp [fieldsOf, hlen]
  · simp [fieldsOf, hlen, h0]
  · simp [fieldsOf, hlen, h0, h20]

/-- Settles O31. -/
theorem framingViolationsAbortInOrder : Obligations.FramingViolationsAbortInOrder := by
  intro s t cause h
  have habort := fieldsOf_abort h
  rw [exec_decode_failure (by simp [habort]), habort]

/-- Settles O32. -/
theorem decodeCommitsAllOrNothing : Obligations.DecodeCommitsAllOrNothing := by
  intro s t hlen h0 h20
  have hfields := fieldsOf_of_framed hlen h0 h20
  refine ⟨extractFields t, parityMinute t, parityHour t, parityDate t, ?_⟩
  by_cases hok : parityMinute t = true ∧ parityHour t = true ∧ parityDate t = true
  · obtain ⟨hmin, hhour, hdate⟩ := hok
    have hsuccess : fieldsOf t = .fields (extractFields t) true true true := by rw [hfields, hmin, hhour, hdate]
    rw [if_pos ⟨hmin, hhour, hdate⟩, exec_decode_success hsuccess, hfields]
  · have hfailure (f : FieldValues) : fieldsOf t ≠ .fields f true true true := fun h => by
      obtain ⟨-, -, -, -, hgroups⟩ := framed_of_success h
      exact hok hgroups
    rw [if_neg hok, exec_decode_failure hfailure, hfields]

/-! What `DECODE` reads (R162, R177), and `TELEGRAM` (R86). -/

theorem exec_decode_congr {t t' : List Bit} (h : fieldsOf t = fieldsOf t') (s : State) : exec (.decode t) s = exec (.decode t') s := by
  rw [exec, exec, execDecode, execDecode, State.decodeTelegram, State.decodeTelegram, h]

theorem slice_congr {t t' : List Bit} {a b : Nat} (hlen : t.length = t'.length) (hb : b < t.length)
    (h : ∀ i, a ≤ i → bitAt t i = bitAt t' i) : slice t a b = slice t' a b := by
  rw [slice_eq_map_bitAt hb, slice_eq_map_bitAt (hlen ▸ hb)]
  exact List.map_congr_left fun k _ => h (a + k) (Nat.le_add_right a k)

theorem fieldsOf_congr {t t' : List Bit} (hlen : t.length = t'.length) (h : ∀ i, i = 0 ∨ 20 ≤ i → bitAt t i = bitAt t' i) :
    fieldsOf t = fieldsOf t' := by
  by_cases h59 : t.length = 59
  · have hslice {a b : Nat} (ha : 20 ≤ a) (hb : b < 59) : slice t a b = slice t' a b :=
      slice_congr hlen (by omega) fun i hi => h i (.inr (by omega))
    have hmin : parityMinute t = parityMinute t' := by rw [parityMinute, parityMinute, hslice, h 28] <;> omega
    have hhour : parityHour t = parityHour t' := by rw [parityHour, parityHour, hslice, h 35] <;> omega
    have hdate : parityDate t = parityDate t' := by rw [parityDate, parityDate, hslice, h 58] <;> omega
    have hextract : extractFields t = extractFields t' := by
      simp [extractFields, hmin, hhour, hdate, hslice]
    rw [fieldsOf, fieldsOf, ← hlen, h 0 (.inl rfl), h 20 (.inr (Nat.le_refl 20)), hextract, hmin, hhour, hdate]
  · rw [fieldsOf, fieldsOf, if_pos h59, if_pos (hlen ▸ h59)]

/-- Settles O33: the markers, the groups and the fields lie at index 0 and from 20 on. -/
theorem decodeIgnoresTheFlagBits : Obligations.DecodeIgnoresTheFlagBits :=
  fun s _ _ hlen h => exec_decode_congr (fieldsOf_congr hlen h) s

theorem bitAt_frameBits (w : FrameWord) {i : Nat} (hi : i < 59) : bitAt (frameBits w) i = bitOfBool (w.getLsbD i) := by
  simp [bitAt, frameBits, hi]

/-- Settles O34. -/
theorem telegramIsDecodedAsItsFrame : Obligations.TelegramIsDecodedAsItsFrame := by
  intro s w
  refine ⟨frameBits w, _, by simp [frameBits], fun i hi => ?_, (exec_telegram s w).trans (exec_decode s _), exec_decode s _⟩
  have hbit : (frameBits w).getD i .zero = bitOfBool (w.getLsbD i) := bitAt_frameBits w hi
  rw [hbit]
  cases w.getLsbD i <;> simp [bitOfBool]

end Sys2Proof.Machine
end

section
/-! The invariants of R37: the state after reset meets them and every step keeps them. -/

namespace Sys2Proof.Machine

open Claims

/-! Committed times hold no sentinel (I-e): a weighted sum is at most the sum of the weights, 165. -/

theorem sum_zipWith_le (ws : List Nat) (s : List Bit) : (List.zipWith (fun w b => w * bitValue b) ws s).sum ≤ ws.sum := by
  induction ws generalizing s with
  | nil => simp
  | cons w ws ih =>
    cases s with
    | nil => simp
    | cons b s =>
      have hb : w * bitValue b ≤ w := by cases b <;> simp [bitValue]
      simp only [List.zipWith_cons_cons, List.sum_cons]
      exact Nat.add_le_add hb (ih s)

theorem bcd_le (s : List Bit) : bcd s ≤ 165 := sum_zipWith_le weights s

/-- The time a full success commits has second and subsecond 0 (R90) and no field 999. -/
theorem committedTime_ok {t : List Bit} {f : FieldValues} (h : fieldsOf t = .fields f true true true) :
    ((committedTime f).second = 0 ∧ (committedTime f).subsecond = 0) ∧ ∀ v ∈ (committedTime f).inOrder, v ≠ sentinel := by
  obtain ⟨-, -, -, rfl, hmin, hhour, hdate⟩ := framed_of_success h
  have hle (s : List Bit) : (bcd s : Int) ≤ 165 := by exact_mod_cast bcd_le s
  refine ⟨⟨rfl, rfl⟩, ?_⟩
  have hyear := hle (slice t 50 57)
  have hmonth := hle (slice t 45 49)
  have hday := hle (slice t 36 41)
  have hweekday := hle (slice t 42 44)
  have hhours := hle (slice t 29 34)
  have hminutes := hle (slice t 21 27)
  simp only [DateTime.inOrder, committedTime, extractFields, hmin, hhour, hdate, guarded, if_true, sentinel, List.forall_mem_cons,
    List.not_mem_nil, false_implies, implies_true, and_true]
  omega

/-! What the registers hold fits (R25 to R27). -/

theorem fitsTimestamp_elapsed (s : State) (a b : Timestamp) : fitsTimestamp s.cfg (BitVec.ofNat 32 (elapsed s a b)) = true :=
  decide_eq_true (tsdiff_lt s.cfg.tsW a b)

theorem fitsTimestamp_zero (c : Config) : fitsTimestamp c 0 = true := decide_eq_true (Nat.two_pow_pos c.tsW)

/-! Reset (R250). -/

theorem zeros_no_sentinel : ∀ v ∈ DateTime.zeros.inOrder, v ≠ sentinel := by decide

theorem resetWith_inv {c : Config} (h : c.ok = true) : (State.resetWith c).Inv where
  tick_eq_length := rfl
  tick_le := Nat.zero_le 58
  searching_tick _ := rfl
  valid_ltValid h := by cases h
  cur_seconds := ⟨rfl, rfl⟩
  prev_seconds := ⟨rfl, rfl⟩
  cur_no_sentinel := zeros_no_sentinel
  prev_no_sentinel := zeros_no_sentinel
  armed_running h := by cases h
  valid_running h := by cases h
  lt_length := rfl
  cfg_ok := h
  times_fit := ⟨fitsTimestamp_zero c, fitsTimestamp_zero c, fitsTimestamp_zero c⟩

/-- Settles O51. -/
theorem resetMeetsTheInvariants : Obligations.ResetMeetsTheInvariants := resetWith_inv (by decide)

theorem rst_inv {s : State} (hs : s.Inv) : s.rst.Inv := { resetWith_inv hs.cfg_ok with }

/-! The operations that have an event word. -/

section
variable {s : State} (hs : s.Inv)
include hs

/-- The invariants speak of neither the ports nor the inputs to come. -/
theorem inv_of_outputs (p : Ports) (rest : List Input) : State.Inv { s with ports := p, pending := rest } := { hs with }

theorem synchronize_inv : s.synchronize.Inv :=
  { hs with tick_eq_length := rfl, tick_le := Nat.zero_le 58, searching_tick := fun _ => rfl }

theorem edgeHi_inv {t : State} {ts : Timestamp} (hfit : fitsTimestamp s.cfg ts = true) (h : exec (.edgeHi ts) s = .next t) : t.Inv := by
  obtain ⟨-, rfl⟩ | ⟨hrun, p, hp, rfl⟩ := exec_edgeHi_cases h
  · exact { hs with }
  · obtain ⟨hpinv, hprun, hcfg⟩ : p.Inv ∧ p.running = true ∧ p.cfg = s.cfg := by
      obtain ⟨-, rfl⟩ | ⟨-, -, rfl⟩ := hp
      · exact ⟨hs, hrun, rfl⟩
      · exact ⟨synchronize_inv hs, hrun, rfl⟩
    obtain ⟨-, hlo, hdur⟩ := hpinv.times_fit
    exact { hpinv with
      armed_running := fun _ => hprun
      times_fit := ⟨by rw [← hcfg] at hfit; exact hfit, hlo, hdur⟩ }

/-- A bit that leaves room in the frame is stored (R127). -/
theorem withBit_inv {ts : Timestamp} (hfit : fitsTimestamp s.cfg ts = true) (hrun : s.running = true) (hsync : s.sync = .synchronized)
    (h57 : s.tick ≤ 57) (b : Bit) : (withBit s ts b).Inv :=
  { hs with
    tick_eq_length := by
      have := hs.tick_eq_length
      simp only [withBit, List.length_append, List.length_singleton]
      omega
    tick_le := Nat.succ_le_succ h57
    searching_tick := fun h => by simp [withBit, hsync] at h
    armed_running := fun _ => hrun
    times_fit := ⟨hs.times_fit.1, hfit, fitsTimestamp_elapsed s ts s.tHi⟩ }

/-- A decode writes a time without sentinels, or clears `valid` (I-c to I-e, I-g). -/
theorem decodeTelegram_inv (hrun : s.running = true) (hv : s.ltValid = true) (t : List Bit) : (s.decodeTelegram t).Inv := by
  obtain ⟨f, hf, h⟩ | ⟨-, h⟩ := decodeTelegram_cases s t
  · obtain ⟨hseconds, hsentinel⟩ := committedTime_ok hf
    rw [h]
    exact { hs with
      valid_ltValid := fun _ => hv
      cur_seconds := hseconds, prev_seconds := hs.cur_seconds
      cur_no_sentinel := hsentinel, prev_no_sentinel := hs.cur_no_sentinel
      valid_running := fun _ => hrun }
  · rw [h]
    exact { hs with
      valid_ltValid := fun h => by cases h
      valid_running := fun h => by cases h }

theorem edgeLo_inv {t : State} {ts : Timestamp} (hfit : fitsTimestamp s.cfg ts = true) (h : exec (.edgeLo ts) s = .next t) : t.Inv := by
  obtain ⟨htHi, -, hdur⟩ := hs.times_fit
  have hlocated {p : State} (hp : Located s ts p) : p.Inv ∧ p.running = s.running ∧ p.ltValid = s.ltValid ∧ p.cfg = s.cfg := by
    obtain ⟨-, rfl⟩ | ⟨-, -, rfl⟩ := hp
    · exact ⟨hs, rfl, rfl, rfl⟩
    · exact ⟨synchronize_inv hs, rfl, rfl, rfl⟩
  cases exec_edgeLo_cases h with
  | ignored => exact { hs with }
  | resynced hrun hk =>
    exact { hs with
      tick_eq_length := rfl, tick_le := Nat.zero_le 58, searching_tick := fun _ => rfl
      armed_running := fun _ => hrun
      times_fit := ⟨htHi, hfit, by
        show fitsTimestamp s.cfg (if _ then _ else _) = true
        split
        · exact fitsTimestamp_elapsed s ts s.tHi
        · exact hdur⟩ }
  | dropped hrun =>
    exact { hs with armed_running := fun _ => hrun, times_fit := ⟨htHi, hfit, fitsTimestamp_elapsed s ts s.tHi⟩ }
  | appended hrun p hp b hk h57 =>
    obtain ⟨hpinv, hprun, -, hcfg⟩ := hlocated hp
    exact withBit_inv hpinv (hcfg ▸ hfit) (hprun.trans hrun) hp.sync h57 b
  | completed hrun hsync b hk h58 =>
    have hlen := hs.tick_eq_length
    have hle := hs.tick_le
    exact { hs with
      tick_eq_length := rfl, tick_le := Nat.zero_le 58, searching_tick := fun _ => rfl
      valid_ltValid := fun _ => rfl
      armed_running := fun _ => hrun
      lt_length := by
        simp only [List.length_append, List.length_singleton]
        omega
      times_fit := ⟨htHi, hfit, fitsTimestamp_elapsed s ts s.tHi⟩ }
  | decoded hrun p hp b hk h0 hv =>
    obtain ⟨hpinv, hprun, hpv, hcfg⟩ := hlocated hp
    have hbit := withBit_inv hpinv (hcfg ▸ hfit) (hprun.trans hrun) hp.sync (by omega) b
    have hdecoded := decodeTelegram_inv hbit (hprun.trans hrun) (hpv.trans hv) p.lt
    rw [decodedBit, dispatchChanges_eq]
    exact { hdecoded with }

/-- Every operation that an event word spells (R97). -/
theorem exec_event_inv {t : State} {w : EventWord} {i : Instr} (hd : decode s.cfg (.event w) = .instr i) (h : exec i s = .next t) : t.Inv := by
  obtain ⟨hword, hwf⟩ := encode_of_decodeEvent hd
  cases i with
  | edgeHi ts => exact edgeHi_inv hs hwf h
  | edgeLo ts => exact edgeLo_inv hs hwf h
  | timeout =>
    cases h
    exact { hs with
      tick_eq_length := rfl, tick_le := Nat.zero_le 58, searching_tick := fun _ => rfl
      valid_ltValid := fun h => by cases h
      armed_running := fun h => by cases h
      valid_running := fun h => by cases h }
  | start => cases h; exact { hs with armed_running := fun _ => rfl, valid_running := fun _ => rfl }
  | stop =>
    rw [stopDisablesAndInvalidates] at h
    cases h
    exact { hs with
      valid_ltValid := fun h => by cases h
      armed_running := fun h => by cases h
      valid_running := fun h => by cases h }
  | subscribe | getLastSignal | getDatetime | getStatus => cases h; exact { hs with }
  | telegram | classify | decode | dispatch => cases hword

end

/-- Settles O50: a step is idle, a reset, or an operation that an event word spells. -/
theorem everyStepKeepsTheInvariants : Obligations.EveryStepKeepsTheInvariants := by
  intro s t hs h
  obtain ⟨-, rfl⟩ | ⟨rest, -, rfl⟩ | ⟨w, rest, i, -, hd, hexec⟩ := step_next_cases h
  · exact inv_of_outputs hs _ _
  · exact rst_inv (inv_of_outputs hs _ rest)
  · exact exec_event_inv (inv_of_outputs hs _ rest) hd hexec

end Sys2Proof.Machine
end

section
/-! Times and traces (R94, R102, R128, R153, R208): edges see differences of timestamps only, 59 pulses make one telegram, the silence after an
edge is bounded, and the register form of a telegram. -/

namespace Sys2Proof.Machine

open Claims

/-! Moving an edge and both recorded timestamps by one amount (R94). -/

/-- Both recorded timestamps moved by `k`. -/
def shiftTimes (k : Timestamp) (s : State) : State := { s with tHi := s.tHi + k, tLo := s.tLo + k }

section
variable (k : Timestamp) (s : State)

theorem tsdiff_shift (n : Nat) (a b : Timestamp) : tsdiff n (a + k) (b + k) = tsdiff n a b := by
  rw [tsdiff, tsdiff, add_sub_add_right_eq_sub]

theorem detectPause_shift (ts last : Timestamp) (v : Bool) :
    (shiftTimes k s).detectPause (ts + k) (last + k) v = shiftTimes k (s.detectPause ts last v) := by
  have hpause : pauseElapsed (shiftTimes k s).cfg (ts + k) (last + k) v = pauseElapsed s.cfg ts last v := by
    rw [pauseElapsed, pauseElapsed, tsdiff_shift]
    rfl
  rw [State.detectPause, State.detectPause, hpause, apply_ite (shiftTimes k)]
  rfl

theorem measurePulse_shift (ts : Timestamp) :
    (shiftTimes k s).measurePulse (ts + k) = ((s.measurePulse ts).1, shiftTimes k (s.measurePulse ts).2) := by
  have hdiff : tsdiff (shiftTimes k s).cfg.tsW (ts + k) (shiftTimes k s).tHi = tsdiff s.cfg.tsW ts s.tHi := tsdiff_shift k s.cfg.tsW ts s.tHi
  obtain ⟨hv, h⟩ | ⟨hv, h⟩ := measurePulse_cases s ts
  · obtain ⟨-, h'⟩ | ⟨hv', -⟩ := measurePulse_cases (shiftTimes k s) (ts + k)
    · rw [h', h, hdiff]; rfl
    · exact absurd (hv.symm.trans hv') (by simp)
  · obtain ⟨hv', -⟩ | ⟨-, h'⟩ := measurePulse_cases (shiftTimes k s) (ts + k)
    · exact absurd (hv.symm.trans hv') (by simp)
    · rw [h', h]

theorem decodeTrigger_shift : (shiftTimes k s).decodeTrigger = shiftTimes k s.decodeTrigger := by
  have hdecode : (shiftTimes k s).decodeTelegram s.lt = shiftTimes k (s.decodeTelegram s.lt) :=
    decodeTelegram_comm (g := shiftTimes k) (fun _ _ => rfl) (fun _ _ => rfl) (fun _ => rfl) s s.lt
  rw [State.decodeTrigger, State.decodeTrigger, apply_ite (shiftTimes k), show (shiftTimes k s).lt = s.lt from rfl, hdecode]
  rfl

theorem acceptBit_shift (b : Bit) : (shiftTimes k s).acceptBit b = shiftTimes k (s.acceptBit b) := by
  have happend : (shiftTimes k s).append b = shiftTimes k (s.append b) := rfl
  rw [State.acceptBit, State.acceptBit, happend, decodeTrigger_shift, apply_ite (shiftTimes k), apply_ite (shiftTimes k)]
  rfl

theorem consumePulse_shift (c : PulseClass) : (shiftTimes k s).consumePulse c = shiftTimes k (s.consumePulse c) := by
  cases c with
  | zero => exact acceptBit_shift k s .zero
  | one => exact acceptBit_shift k s .one
  | invalid => rfl

theorem risingEdge_shift (ts : Timestamp) : (shiftTimes k s).risingEdge (ts + k) = shiftTimes k (s.risingEdge ts) := by
  have hpause := detectPause_shift k s ts s.tHi s.tHiValid
  exact congrArg (fun u : State => (u.recordHi (ts + k)).armWatchdog) hpause

theorem fallingEdge_shift (ts : Timestamp) : (shiftTimes k s).fallingEdge (ts + k) = shiftTimes k (s.fallingEdge ts) := by
  have hpause : (shiftTimes k s).detectPause (ts + k) (shiftTimes k s).tLo (shiftTimes k s).tLoValid =
      shiftTimes k (s.detectPause ts s.tLo s.tLoValid) := detectPause_shift k s ts s.tLo s.tLoValid
  have hrecord (u : State) : (shiftTimes k u).recordLo (ts + k) = shiftTimes k (u.recordLo ts) := rfl
  simp only [State.fallingEdge, hpause, hrecord, measurePulse_shift, consumePulse_shift]
  rfl

end

/-- Settles O22: each step of an edge commutes with the move. -/
theorem edgesDependOnTimeDifferencesOnly : Obligations.EdgesDependOnTimeDifferencesOnly := by
  intro s t ts k high edge h
  change exec (edge (ts + k)) (shiftTimes k s) = .next (shiftTimes k t)
  cases high with
  | true =>
    cases h
    have hrise : (shiftTimes k s).beginOp.risingEdge (ts + k) = shiftTimes k (s.beginOp.risingEdge ts) := risingEdge_shift k s.beginOp ts
    change execEdgeHi (ts + k) (shiftTimes k s) = _
    rw [execEdgeHi, hrise, apply_ite (shiftTimes k)]
    rfl
  | false =>
    cases h
    have hfall : (shiftTimes k s).beginOp.fallingEdge (ts + k) = shiftTimes k (s.beginOp.fallingEdge ts) := fallingEdge_shift k s.beginOp ts
    change execEdgeLo (ts + k) (shiftTimes k s) = _
    rw [execEdgeLo, hfall, apply_ite (shiftTimes k)]
    rfl

/-! The register form of a telegram (R208). -/

theorem packBits_nil : packBits [] = 0 := rfl

theorem packBits_cons (b : Bit) (bits : List Bit) : packBits (b :: bits) = bitValue b + packBits bits * 2 := rfl

theorem packBits_lt (bits : List Bit) : packBits bits < 2 ^ bits.length := by
  induction bits with
  | nil => exact Nat.one_pos
  | cons b bits ih =>
    have hb : bitValue b ≤ 1 := by cases b <;> decide
    rw [packBits_cons, List.length_cons, Nat.pow_succ]
    omega

theorem testBit_packBits (bits : List Bit) (i : Nat) : (packBits bits).testBit i = decide (val bits i = 1) := by
  induction bits generalizing i with
  | nil => rw [packBits_nil, Nat.zero_testBit]; rfl
  | cons b bits ih =>
    rw [packBits_cons]
    cases i with
    | zero =>
      rw [Nat.testBit_zero, Nat.add_mul_mod_self_right]
      cases b <;> rfl
    | succ i =>
      have hdiv : (bitValue b + packBits bits * 2) / 2 = packBits bits := by cases b <;> simp only [bitValue] <;> omega
      rw [Nat.testBit_succ, hdiv, ih]
      rfl

/-- Settles O49: the frame fills the 59 bits below `present`. -/
theorem lastSignalRegisterHoldsTheFrame : Obligations.LastSignalRegisterHoldsTheFrame := by
  intro c present bits hlen
  have hlt : packBits bits < 2 ^ 59 := hlen ▸ packBits_lt bits
  have hpack : packResponse c (.lastSignal present bits) = 2 ^ 59 * boolValue present + packBits bits := by
    rw [packResponse, packLastSignal, Nat.add_comm, Nat.mul_comm]
  rw [hpack]
  refine ⟨fun i hi => ?_, ?_, ?_⟩
  · rw [Nat.testBit_two_pow_mul_add _ hlt, if_pos hi, testBit_packBits]
  · rw [Nat.testBit_two_pow_mul_add _ hlt, if_neg (Nat.lt_irrefl 59)]
    cases present <;> rfl
  · cases present <;> simp only [boolValue] <;> omega

/-! The silence after an edge (R153). -/

section
variable {accuracy horizon : Nat}

/-- An input that leaves the timer leaves what bounds it: the armed bit, the configuration, and no new request. -/
theorem after_of_leavesTimer {s : State} {x : Input} (h : LeavesTimer s.cfg x) :
    (s.after x).cfg = s.cfg ∧ (s.after x).wdArmed = s.wdArmed ∧ (s.after x).ports.wdArm = none := by
  obtain ⟨rfl, -⟩ | ⟨w, i, rfl, hop, hexec⟩ | ⟨w, rfl, -, hbegin⟩ := after_cases s x
  · cases h
  · have hd : decode s.cfg (.event w) = .instr i := by
      cases hd : decode s.cfg (.event w) <;> simp_all [State.operation, Decoded.toOption]
    obtain ⟨htimeout, hstart, hstop, hedge⟩ := h i hd
    obtain ⟨hcfg, -, harmed, -⟩ := controlStateHasTheStatedWriters s _ i hexec
    obtain ⟨t, ht, harm, -⟩ := watchdogRequestsHaveTheStatedSources s i
    cases ht.symm.trans hexec
    refine ⟨hcfg, ?_, ?_⟩
    · by_contra hne
      obtain he | he | he | ⟨-, ts, he | he⟩ := harmed hne
      exacts [hstart he, hstop he, htimeout he, (hedge ts).1 he, (hedge ts).2 he]
    · by_contra hne
      obtain he | ⟨-, ts, he | he⟩ := harm.1 hne
      exacts [hstart he, (hedge ts).1 he, (hedge ts).2 he]
  · rw [hbegin]
    exact ⟨rfl, rfl, rfl⟩

/-- As long as only such inputs come, the request made at `a` bounds the next input. -/
theorem bounded_of_pending {a : Nat} {y : TimedInput} (mid : List TimedInput) {tm : Timer} {s : State} (htm : tm.armedAt = some a)
    (hs : s.wdArmed = true) (hmid : ∀ m ∈ mid, LeavesTimer s.cfg m.input)
    (htrace : wellTimedTrace accuracy tm (mid ++ [y]) horizon s = true) : y.time ≤ a + wdDelay s.cfg + accuracy := by
  induction mid generalizing tm s with
  | nil =>
    obtain ⟨honTime, -⟩ := wellTimedTrace_cons.1 htrace
    exact ((Timer.onTime_iff ..).1 honTime).2 a htm
  | cons m mid ih =>
    obtain ⟨-, -, hrest⟩ := wellTimedTrace_cons.1 htrace
    obtain ⟨hcfg, harmed, harm⟩ := after_of_leavesTimer (hmid m List.mem_cons_self)
    have hpending : (tm.next m.time (s.after m.input)).armedAt = some a := by
      simp [Timer.next, harm, harmed, hs, htm]
    have hle := ih hpending (harmed.trans hs) (fun m' hm' => hcfg ▸ hmid m' (List.mem_cons_of_mem m hm')) hrest
    rwa [hcfg] at hle

end

/-- Settles O53: the edge arms the timer at its own time, and nothing after it touches the request. -/
theorem silenceAfterAnEdgeIsBounded : Obligations.SilenceAfterAnEdgeIsBounded := by
  intro accuracy horizon tm s x y mid w i hrun hx hd hedge hmid htrace
  obtain ⟨t, ht, hcfg, -, harmed⟩ := everyOperationCompletes i s
  obtain ⟨harmed, harm⟩ := harmed hrun hedge
  have hafter : s.after x.input = t := by
    rw [hx, State.after, deliver, hd]
    simp only [ht]
  obtain ⟨-, -, hrest⟩ := wellTimedTrace_cons.1 htrace
  rw [hafter] at hrest
  have hpending : (tm.next x.time t).armedAt = some x.time := by simp [Timer.next, harm]
  have hle := bounded_of_pending mid hpending harmed (fun m hm => hcfg ▸ hmid m hm) hrest
  rwa [hcfg] at hle

end Sys2Proof.Machine
end

section
/-! A whole frame (R128): 59 pulses delivered to a block at `S(0)`, one step for each edge. -/

namespace Sys2Proof.Machine

open Claims

/-! The words of a pulse (R97, R102). -/

theorem ofNat_op_add (x : BitVec 8) (ts : Timestamp) : BitVec.ofNat 40 (x.toNat * 2 ^ 32 + ts.toNat) = (x ++ ts : BitVec (8 + 32)) := by
  apply BitVec.eq_of_toNat_eq
  have hx := x.isLt
  have hts := ts.isLt
  rw [BitVec.toNat_append, ← Nat.shiftLeft_add_eq_or_of_lt hts, Nat.shiftLeft_eq, BitVec.toNat_ofNat]
  exact Nat.mod_eq_of_lt (by omega)

theorem hiWord_eq (ts : Timestamp) : hiWord ts = eventWord 1 1 ts := ofNat_op_add 0x11 ts

theorem loWord_eq (ts : Timestamp) : loWord ts = eventWord 1 0 ts := ofNat_op_add 0x10 ts

theorem decode_hiWord {c : Config} {ts : Timestamp} (h : fitsTimestamp c ts = true) : decode c (.event (hiWord ts)) = .instr (.edgeHi ts) :=
  decodeInvertsEncode c (.edgeHi ts) _ h (by rw [hiWord_eq]; rfl)

theorem decode_loWord {c : Config} {ts : Timestamp} (h : fitsTimestamp c ts = true) : decode c (.event (loWord ts)) = .instr (.edgeLo ts) :=
  decodeInvertsEncode c (.edgeLo ts) _ h (by rw [loWord_eq]; rfl)

/-! Runs. -/

theorem run_succ_of_step {M : Host.Core} {s u : M.State} (h : M.step s = .next u) (k : Nat) : M.run (k + 1) s = M.run k u := by
  rw [Host.Core.run, h]

section
variable {s u v : State} (hsu : step s = .next u) (huv : step u = .next v)
include hsu huv

theorem run_add_two (k : Nat) : core.run (k + 2) s = core.run k v :=
  (run_succ_of_step (M := core) hsu (k + 1)).trans (run_succ_of_step (M := core) huv k)

/-- What two steps and a run after them leave of the last telegram. -/
theorem lt_of_two_steps {lt : List Bit} {n : Nat} (hs : s.lt = lt) (hu : u.lt = lt)
    (hv : ∀ k < n, ∃ x, core.run k v = .next x ∧ State.lt x = lt) : ∀ k < n + 2, ∃ x, core.run k s = .next x ∧ State.lt x = lt
  | 0, _ => ⟨s, rfl, hs⟩
  | 1, _ => ⟨u, run_succ_of_step (M := core) hsu 0, hu⟩
  | k + 2, hk => by
    rw [run_add_two hsu huv]
    exact hv k (by omega)

end

/-! The reception of a frame. -/

/-- The block has received `bits` of a frame since the last telegram `lt`, and `rest` is still to come. -/
structure Receiving (c : Config) (lt bits : List Bit) (rest : List Input) (s : State) : Prop where
  running : s.running = true
  sync : s.sync = .synchronized
  tick : s.tick = bits.length
  buf : s.buf = bits
  last : s.lt = lt
  cfg : s.cfg = c
  pending : s.pending = rest

/-- A pulse whose times have words and that spells its bit (R80, R96). -/
structure SpellsBit (c : Config) (p : Pulse) : Prop where
  hi_fits : fitsTimestamp c p.hi = true
  lo_fits : fitsTimestamp c p.lo = true
  spells : spells c ((p.lo - p.hi).toNat % 2 ^ c.tsW) = bitClass p.bit

section
variable {c : Config} {lt bits : List Bit} {rest : List Input} {p : Pulse} {s : State}

/-- The first word of a pulse is taken, and the second is next: its edge measures the pulse in the state `w`. -/
theorem Receiving.rise (h : Receiving c lt bits (pulseWords p ++ rest) s) (hp : SpellsBit c p) :
    ∃ u w, step s = .next u ∧ u.lt = lt ∧ step u = exec (.edgeLo p.lo) w ∧ Receiving c lt bits rest w ∧
      pulseOutcome w p.lo = bitClass p.bit := by
  obtain ⟨hrun, hsync, htick, hbuf, rfl, rfl, hpending⟩ := h
  have hrise : step s = exec (.edgeHi p.hi) { s with pending := .word (loWord p.lo) :: rest } := step_word hpending (decode_hiWord hp.hi_fits)
  have hquiet := risingEdgeWhileRunning { s with pending := .word (loWord p.lo) :: rest } p.hi hrun
  rw [if_neg (by simp [hsync])] at hquiet
  refine ⟨_, _, hrise.trans hquiet, rfl, step_word rfl (decode_loWord hp.lo_fits), ⟨hrun, hsync, htick, hbuf, rfl, rfl, rfl⟩, ?_⟩
  exact (pulseOutcome_of_start rfl p.lo).trans hp.spells

/-- A bit before the 59th is stored, whether or not it is the one that triggers the decode. -/
theorem Receiving.store (h : Receiving c lt bits rest s) {ts : Timestamp} {b : Bit} (hk : pulseOutcome s ts = bitClass b)
    (hlen : bits.length ≤ 57) : ∃ t, exec (.edgeLo ts) s = .next t ∧ Receiving c lt (bits ++ [b]) rest t := by
  obtain ⟨hrun, hsync, htick, rfl, rfl, rfl, rfl⟩ := h
  have hbit : Receiving s.cfg s.lt (s.buf ++ [b]) s.pending (withBit s ts b) :=
    ⟨hrun, hsync, by simp [withBit, htick], rfl, rfl, rfl, rfl⟩
  by_cases hd : s.tick = 0 ∧ s.ltValid = true
  · obtain ⟨h0, hv⟩ := hd
    refine ⟨_, exec_edgeLo_decoded hrun hsync hk h0 hv, ?_⟩
    rw [decodedBit_eq]
    exact { hbit with }
  · exact ⟨_, exec_edgeLo_appended hrun hsync hk (by omega) hd, hbit⟩

/-- The 59th bit completes the frame (R128). -/
theorem Receiving.complete (h : Receiving c lt bits rest s) {ts : Timestamp} {b : Bit} (hk : pulseOutcome s ts = bitClass b)
    (hlen : bits.length = 58) : ∃ t, exec (.edgeLo ts) s = .next t ∧ t.lt = bits ++ [b] ∧ t.ltValid = true ∧ t.buf = [] ∧ t.tick = 0 ∧
      t.sync = .synchronized ∧ t.pending = rest := by
  obtain ⟨hrun, hsync, htick, rfl, rfl, rfl, rfl⟩ := h
  exact ⟨_, exec_edgeLo_completed hrun hsync hk (by omega), rfl, rfl, rfl, rfl, hsync, rfl⟩

end

/-- The pulses that are left of a frame complete it, and until the last edge the last telegram is as it was. -/
theorem receive_frame {c : Config} {lt : List Bit} {rest : List Input} (ps : List Pulse) {bits : List Bit} {s : State}
    (h : Receiving c lt bits (ps.flatMap pulseWords ++ rest) s) (hps : ∀ p ∈ ps, SpellsBit c p) (hlen : bits.length + ps.length = 59)
    (hlt : bits.length ≤ 58) :
    (∀ k < 2 * ps.length, ∃ u, core.run k s = .next u ∧ State.lt u = lt) ∧
    ∃ t : State, core.run (2 * ps.length) s = .next t ∧ t.lt = bits ++ ps.map Pulse.bit ∧ t.ltValid = true ∧ t.buf = [] ∧ t.tick = 0 ∧
      t.sync = .synchronized ∧ t.pending = rest := by
  induction ps generalizing bits s with
  | nil =>
    simp only [List.length_nil] at hlen
    omega
  | cons p ps ih =>
    rw [List.flatMap_cons, List.append_assoc] at h
    obtain ⟨u, w, hsu, hu, huw, hw, hk⟩ := h.rise (hps p List.mem_cons_self)
    have hlast := h.last
    simp only [List.length_cons] at hlen ⊢
    cases ps with
    | nil =>
      obtain ⟨v, hv, hdone⟩ := hw.complete hk (by simpa using hlen)
      have huv := huw.trans hv
      exact ⟨lt_of_two_steps hsu huv hlast hu (n := 0) (by simp), v, run_add_two hsu huv 0, hdone⟩
    | cons q qs =>
      simp only [List.length_cons] at hlen
      obtain ⟨v, hv, hstored⟩ := hw.store hk (by omega)
      have huv := huw.trans hv
      obtain ⟨hbefore, t, ht, hdone⟩ := ih hstored (fun p' hp' => hps p' (List.mem_cons_of_mem p hp')) (by simp; omega) (by simp; omega)
      rw [List.append_assoc] at hdone
      exact ⟨lt_of_two_steps hsu huv hlast hu hbefore, t, (run_add_two hsu huv _).trans ht, hdone⟩

/-- Settles O23. -/
theorem fiftyNinePulsesMakeOneTelegram : Obligations.FiftyNinePulsesMakeOneTelegram := by
  intro s ps rest hrun hsync htick hbuf hlen hps hpending
  have hreceiving : Receiving s.cfg s.lt [] (ps.flatMap pulseWords ++ rest) s := ⟨hrun, hsync, htick, hbuf, rfl, rfl, hpending⟩
  have hspells (p : Pulse) (hp : p ∈ ps) : SpellsBit s.cfg p := by
    obtain ⟨hhi, hlo, hk⟩ := hps p hp
    exact ⟨decide_eq_true hhi, decide_eq_true hlo, hk⟩
  have hframe := receive_frame ps hreceiving hspells (by simp [hlen]) (Nat.zero_le 58)
  rw [hlen] at hframe
  exact hframe

end Sys2Proof.Machine
end
